-- ==== Sys2Proof/Word.lean ====
section
/-! DEFINITION. The 32-bit header word (00_scope.md R11), and the model-level values an operation
reads or answers with: the six error kinds (60_exceptions.md R180), the tagged enumerations with an
explicit unknown(raw) case (00_scope.md R16) and the two header records (10_state.md R32, R33). -/

namespace Sys2Proof

/-- A header word: 32 bits, bit 31 most significant (00_scope.md R11). -/
abbrev Word := BitVec 32

/-- A 4-bit field: version, byte-order qualifier, packet type, type ID, info code. -/
abbrev Nibble := BitVec 4

/-- The closed enumeration of the six error kinds (60_exceptions.md R180, R181). -/
inductive ErrorKind where
  /-- The version field does not match the supported value. -/
  | protocolVersionMismatch
  /-- The byte-order qualifier is not the canonical marker. -/
  | byteOrderMismatch
  /-- A header with an out-of-range value was offered to a constructor or encoder. -/
  | invalidField
  /-- Strict mode only: the packet type is not a named one. -/
  | unknownPacketType
  /-- Strict mode only: the type ID or the info code is not a named one (decision D10). -/
  | unknownTransactionCode
  /-- Strict mode only: a reserved bit of a packet header is set (decision D7). -/
  | reservedBitSet
deriving DecidableEq, Repr

/-- Packet type (30_encoding.md R66). -/
inductive PacketType where
  | control
  | status
  | resend
  | unknown (raw : Nibble)
deriving DecidableEq, Repr

/-- Transaction type ID (30_encoding.md R67). -/
inductive TypeId where
  | read
  | write
  | unknown (raw : Nibble)
deriving DecidableEq, Repr

/-- Info code (30_encoding.md R68). -/
inductive InfoCode where
  | requestSuccess
  | badHeader
  | readBusError
  | writeBusError
  | readBusTimeout
  | writeBusTimeout
  | unknownRequest
  | unknown (raw : Nibble)
deriving DecidableEq, Repr

/-- The PacketHeader record (10_state.md R32). -/
structure PacketHeader where
  protocolVersion : Nibble
  packetId : BitVec 16
  byteOrderQualifier : Nibble
  packetType : PacketType
deriving DecidableEq, Repr

/-- The TransactionHeader record (10_state.md R33). -/
structure TransactionHeader where
  protocolVersion : Nibble
  transactionId : BitVec 12
  wordCount : BitVec 8
  typeId : TypeId
  infoCode : InfoCode
deriving DecidableEq, Repr

/-- Direction of a bus fault (43_info_code_classify.md R170). -/
inductive Direction where
  | read
  | write
deriving DecidableEq, Repr

/-- Kind of a bus fault (43_info_code_classify.md R170). -/
inductive BusFaultKind where
  | busError
  | busTimeout
deriving DecidableEq, Repr

/-- The tri-state outcome of an info code (43_info_code_classify.md R170). -/
inductive InfoOutcome where
  | success
  | recoverableBusFault (direction : Direction) (kind : BusFaultKind)
  | protocolFault
deriving DecidableEq, Repr

end Sys2Proof
end

