-- ==== Sys2Proof/Config.lean ====
section
/-! DEFINITION. What the hardware fixes when it is built: the parameters of 00_scope.md R8 and R9 and
the constants of 10_state.md R25. What the source leaves open and the spec decides (R9) is a field of
`Config`; every rule that depends on one takes the configuration as an argument, and `Config.decided`,
the one place of their values, holds the spec's own (assumption log 8, 9, 10, 11). -/

namespace Sys2Proof

/-- The numbers of the six kinds of error on every 3-bit `err` output (60_exceptions.md R181, decision
D9). 0 is no error (00_scope.md R15) and no parameter. -/
structure ErrorCodes where
  protocolVersionMismatch : BitVec 3
  byteOrderMismatch : BitVec 3
  invalidField : BitVec 3
  unknownPacketType : BitVec 3
  unknownTransactionCode : BitVec 3
  reservedBitSet : BitVec 3
deriving DecidableEq, Repr

/-- The numbers of the three outcomes on the 2-bit `outcome` output (43_info_code_classify.md R171,
decision D16). -/
structure OutcomeCodes where
  success : BitVec 2
  recoverableBusFault : BitVec 2
  protocolFault : BitVec 2
deriving DecidableEq, Repr

/-- The parameters the source leaves open (00_scope.md R9). -/
structure Config where
  /-- Lowest bit of `packet_id` in a packet header (decision D5). -/
  pidLsb : Nat
  /-- Type ID of the Read transaction (decision D11). -/
  typeRead : Nibble
  /-- Type ID of the Write transaction (decision D11). -/
  typeWrite : Nibble
  /-- Width of an unconstrained host value (decision D14). -/
  hostW : Nat
  /-- Error codes (decision D9). -/
  errorCodes : ErrorCodes
  /-- Outcome codes (decision D16). -/
  outcomeCodes : OutcomeCodes
deriving DecidableEq, Repr

namespace Config

/-- The values the spec decides on: D5 and D11 (PRESUMED, assumption log 8 and 9), D14, D9 and D16
(DESIGN CHOICE, assumption log 10 and 11). -/
abbrev decided : Config where
  pidLsb := 8
  typeRead := 0x0
  typeWrite := 0x1
  hostW := 32
  errorCodes :=
    { protocolVersionMismatch := 1, byteOrderMismatch := 2, invalidField := 3, unknownPacketType := 4
      unknownTransactionCode := 5, reservedBitSet := 6 }
  outcomeCodes := { success := 0, recoverableBusFault := 1, protocolFault := 2 }

/-- Width of an unconstrained host value on the ports (decision D14; assumption log 10). -/
abbrev HOSTW : Nat := Config.decided.hostW

/-- Width of the longest operand, MK_TXN's four host values. -/
abbrev OPERANDW : Nat := 4 * HOSTW

/-- Position of the packet header's single version bit (00_scope.md R8). -/
@[simp] abbrev PKT_VERSION_BIT : Nat := 29
/-- Protocol version of both headers. -/
@[simp] abbrev EXPECTED_VERSION : Nibble := 2
/-- Bit 29, the packet header's version bit. -/
@[simp] abbrev PKT_VERSION_MASK : Word := 0x20000000
/-- The same mask seen inside bits 31 to 28. -/
@[simp] abbrev PKT_VERSION_NIBBLE_MASK : Nibble := 0x2
@[simp] abbrev PKT_BOQ_MASK : Word := 0x000000F0
@[simp] abbrev PKT_BOQ_SHIFT : Nat := 4
/-- The canonical byte-order qualifier. -/
@[simp] abbrev BOQ_CANON : Nibble := 0xF
@[simp] abbrev PKT_TYPE_MASK : Word := 0x0000000F
@[simp] abbrev TXN_VERSION_MASK : Word := 0xF0000000
@[simp] abbrev TXN_VERSION_SHIFT : Nat := 28
@[simp] abbrev TXN_ID_MASK : Word := 0x0FFF0000
@[simp] abbrev TXN_ID_SHIFT : Nat := 16
@[simp] abbrev TXN_WORDS_MASK : Word := 0x0000FF00
@[simp] abbrev TXN_WORDS_SHIFT : Nat := 8
@[simp] abbrev TXN_TYPE_MASK : Word := 0x000000F0
@[simp] abbrev TXN_TYPE_SHIFT : Nat := 4
@[simp] abbrev TXN_INFO_MASK : Word := 0x0000000F
/-- Bytes; the caller's limit, read by no block (20_memory.md R41). -/
abbrev MAX_PACKET_SIZE : Nat := 1500

/-- PKT_ID_MASK: sixteen ones at the packet ID's place (10_state.md R25). -/
def pktIdMask (c : Config) : Word := 0xFFFF#32 <<< c.pidLsb

/-- PKT_RESERVED_MASK: "the complement of the OR of the four packet field masks" (10_state.md R25). -/
def pktReservedMask (c : Config) : Word :=
  ~~~(PKT_VERSION_MASK ||| c.pktIdMask ||| PKT_BOQ_MASK ||| PKT_TYPE_MASK)

end Config

/-- An unconstrained host value offered to a constructor check (00_scope.md R9). -/
abbrev HostValue := BitVec Config.HOSTW

end Sys2Proof
end

