-- ==== Sys2Proof/Syntax.lean ====
section
/-! DEFINITION. The instructions: one constructor per row of spec/opcode_table.json. An instruction is
one evaluation (70_reset_and_hazards.md R222), so its operands are the values the caller presents on
the input ports of the block or port group it uses, each exactly as wide as the port (10_state.md R26
to R30); no operand can be out of range. The twelve operations of 30_encoding.md R73 come first. The
forty-eight code rows (30_encoding.md R76) are header words that carry one packet type, type ID or info
code, presented to the decoder of their format (assumption log 4): the constructor is the code, the
operands are the word's other bits and the `strict` input. -/

namespace Sys2Proof

inductive Instr where
  /-- VAL_PKT_WORD (R100). -/
  | valPktWord (word : Word) (strict : Bool)
  /-- VAL_TXN_WORD (R102). -/
  | valTxnWord (word : Word) (strict : Bool)
  /-- PTYPE_KNOWN (R104). -/
  | ptypeKnown (ptype : Nibble)
  /-- TYPEID_KNOWN (R105). -/
  | typeidKnown (tid : Nibble)
  /-- INFO_KNOWN (R108). -/
  | infoKnown (info : Nibble)
  /-- MK_PKT (R106). -/
  | mkPkt (packetIdIn : HostValue) (packetTypeIn : Nibble)
  /-- MK_TXN (R107). -/
  | mkTxn (transactionIdIn wordCountIn typeIdIn infoCodeIn : HostValue)
  /-- PKT_DECODE (R130). -/
  | pktDecode (word : Word) (strict : Bool)
  /-- PKT_ENCODE (R135). -/
  | pktEncode (packetId : BitVec 16) (packetType : Nibble)
  /-- TXN_DECODE (R150). -/
  | txnDecode (word : Word) (strict : Bool)
  /-- TXN_ENCODE (R155). -/
  | txnEncode (transactionId : BitVec 12) (wordCount : BitVec 8) (typeId infoCode : Nibble)
  /-- CLASSIFY_INFO (R170). -/
  | classifyInfo (info : Nibble)
  -- Rows of format PKT (R66): `reserved` is the reserved bits of the word, 31, 30, 28 and the
  -- four of bits 27 to 8 outside the packet ID (27 to 24 with PID_LSB = 8), in that order.
  /-- Packet type 0x0. -/
  | pktControl (reserved : BitVec 7) (packetId : BitVec 16) (strict : Bool)
  /-- Packet type 0x1. -/
  | pktStatus (reserved : BitVec 7) (packetId : BitVec 16) (strict : Bool)
  /-- Packet type 0x2. -/
  | pktResend (reserved : BitVec 7) (packetId : BitVec 16) (strict : Bool)
  /-- Packet type 0x3. -/
  | pktReserved3 (reserved : BitVec 7) (packetId : BitVec 16) (strict : Bool)
  /-- Packet type 0x4. -/
  | pktReserved4 (reserved : BitVec 7) (packetId : BitVec 16) (strict : Bool)
  /-- Packet type 0x5. -/
  | pktReserved5 (reserved : BitVec 7) (packetId : BitVec 16) (strict : Bool)
  /-- Packet type 0x6. -/
  | pktReserved6 (reserved : BitVec 7) (packetId : BitVec 16) (strict : Bool)
  /-- Packet type 0x7. -/
  | pktReserved7 (reserved : BitVec 7) (packetId : BitVec 16) (strict : Bool)
  /-- Packet type 0x8. -/
  | pktReserved8 (reserved : BitVec 7) (packetId : BitVec 16) (strict : Bool)
  /-- Packet type 0x9. -/
  | pktReserved9 (reserved : BitVec 7) (packetId : BitVec 16) (strict : Bool)
  /-- Packet type 0xA. -/
  | pktReservedA (reserved : BitVec 7) (packetId : BitVec 16) (strict : Bool)
  /-- Packet type 0xB. -/
  | pktReservedB (reserved : BitVec 7) (packetId : BitVec 16) (strict : Bool)
  /-- Packet type 0xC. -/
  | pktReservedC (reserved : BitVec 7) (packetId : BitVec 16) (strict : Bool)
  /-- Packet type 0xD. -/
  | pktReservedD (reserved : BitVec 7) (packetId : BitVec 16) (strict : Bool)
  /-- Packet type 0xE. -/
  | pktReservedE (reserved : BitVec 7) (packetId : BitVec 16) (strict : Bool)
  /-- Packet type 0xF. -/
  | pktReservedF (reserved : BitVec 7) (packetId : BitVec 16) (strict : Bool)
  -- Rows of format TXN.TYPE (R67).
  /-- Type ID 0x0. -/
  | txnTypeRead (transactionId : BitVec 12) (wordCount : BitVec 8) (infoCode : Nibble) (strict : Bool)
  /-- Type ID 0x1. -/
  | txnTypeWrite (transactionId : BitVec 12) (wordCount : BitVec 8) (infoCode : Nibble) (strict : Bool)
  /-- Type ID 0x2. -/
  | txnTypeReserved2 (transactionId : BitVec 12) (wordCount : BitVec 8) (infoCode : Nibble) (strict : Bool)
  /-- Type ID 0x3. -/
  | txnTypeReserved3 (transactionId : BitVec 12) (wordCount : BitVec 8) (infoCode : Nibble) (strict : Bool)
  /-- Type ID 0x4. -/
  | txnTypeReserved4 (transactionId : BitVec 12) (wordCount : BitVec 8) (infoCode : Nibble) (strict : Bool)
  /-- Type ID 0x5. -/
  | txnTypeReserved5 (transactionId : BitVec 12) (wordCount : BitVec 8) (infoCode : Nibble) (strict : Bool)
  /-- Type ID 0x6. -/
  | txnTypeReserved6 (transactionId : BitVec 12) (wordCount : BitVec 8) (infoCode : Nibble) (strict : Bool)
  /-- Type ID 0x7. -/
  | txnTypeReserved7 (transactionId : BitVec 12) (wordCount : BitVec 8) (infoCode : Nibble) (strict : Bool)
  /-- Type ID 0x8. -/
  | txnTypeReserved8 (transactionId : BitVec 12) (wordCount : BitVec 8) (infoCode : Nibble) (strict : Bool)
  /-- Type ID 0x9. -/
  | txnTypeReserved9 (transactionId : BitVec 12) (wordCount : BitVec 8) (infoCode : Nibble) (strict : Bool)
  /-- Type ID 0xA. -/
  | txnTypeReservedA (transactionId : BitVec 12) (wordCount : BitVec 8) (infoCode : Nibble) (strict : Bool)
  /-- Type ID 0xB. -/
  | txnTypeReservedB (transactionId : BitVec 12) (wordCount : BitVec 8) (infoCode : Nibble) (strict : Bool)
  /-- Type ID 0xC. -/
  | txnTypeReservedC (transactionId : BitVec 12) (wordCount : BitVec 8) (infoCode : Nibble) (strict : Bool)
  /-- Type ID 0xD. -/
  | txnTypeReservedD (transactionId : BitVec 12) (wordCount : BitVec 8) (infoCode : Nibble) (strict : Bool)
  /-- Type ID 0xE. -/
  | txnTypeReservedE (transactionId : BitVec 12) (wordCount : BitVec 8) (infoCode : Nibble) (strict : Bool)
  /-- Type ID 0xF. -/
  | txnTypeReservedF (transactionId : BitVec 12) (wordCount : BitVec 8) (infoCode : Nibble) (strict : Bool)
  -- Rows of format TXN.INFO (R68).
  /-- Info code 0x0. -/
  | txnInfoRequestSuccess (transactionId : BitVec 12) (wordCount : BitVec 8) (typeId : Nibble) (strict : Bool)
  /-- Info code 0x1. -/
  | txnInfoBadHeader (transactionId : BitVec 12) (wordCount : BitVec 8) (typeId : Nibble) (strict : Bool)
  /-- Info code 0x2. -/
  | txnInfoReserved2 (transactionId : BitVec 12) (wordCount : BitVec 8) (typeId : Nibble) (strict : Bool)
  /-- Info code 0x3. -/
  | txnInfoReserved3 (transactionId : BitVec 12) (wordCount : BitVec 8) (typeId : Nibble) (strict : Bool)
  /-- Info code 0x4. -/
  | txnInfoReadBusError (transactionId : BitVec 12) (wordCount : BitVec 8) (typeId : Nibble) (strict : Bool)
  /-- Info code 0x5. -/
  | txnInfoWriteBusError (transactionId : BitVec 12) (wordCount : BitVec 8) (typeId : Nibble) (strict : Bool)
  /-- Info code 0x6. -/
  | txnInfoReadBusTimeout (transactionId : BitVec 12) (wordCount : BitVec 8) (typeId : Nibble) (strict : Bool)
  /-- Info code 0x7. -/
  | txnInfoWriteBusTimeout (transactionId : BitVec 12) (wordCount : BitVec 8) (typeId : Nibble) (strict : Bool)
  /-- Info code 0x8. -/
  | txnInfoReserved8 (transactionId : BitVec 12) (wordCount : BitVec 8) (typeId : Nibble) (strict : Bool)
  /-- Info code 0x9. -/
  | txnInfoReserved9 (transactionId : BitVec 12) (wordCount : BitVec 8) (typeId : Nibble) (strict : Bool)
  /-- Info code 0xA. -/
  | txnInfoReservedA (transactionId : BitVec 12) (wordCount : BitVec 8) (typeId : Nibble) (strict : Bool)
  /-- Info code 0xB. -/
  | txnInfoReservedB (transactionId : BitVec 12) (wordCount : BitVec 8) (typeId : Nibble) (strict : Bool)
  /-- Info code 0xC. -/
  | txnInfoReservedC (transactionId : BitVec 12) (wordCount : BitVec 8) (typeId : Nibble) (strict : Bool)
  /-- Info code 0xD. -/
  | txnInfoReservedD (transactionId : BitVec 12) (wordCount : BitVec 8) (typeId : Nibble) (strict : Bool)
  /-- Info code 0xE. -/
  | txnInfoReservedE (transactionId : BitVec 12) (wordCount : BitVec 8) (typeId : Nibble) (strict : Bool)
  /-- Info code 0xF. -/
  | txnInfoUnknownRequest (transactionId : BitVec 12) (wordCount : BitVec 8) (typeId : Nibble) (strict : Bool)
deriving DecidableEq, Repr

end Sys2Proof
end

