-- ==== Sys2Proof/WellFormed.lean ====
section
/-! DEFINITION. What a caller presents, and when it is well formed. Every `Instr` is well formed by its
types, since a port cannot carry a value wider than itself (10_state.md R29, R31). What can be ill
formed is a REQUEST, the untyped picture of a presentation (which port group, the operand bits as
spec/opcode_table.json numbers them, the `strict` wire), a header record (10_state.md R32, R33) and a
configuration (decisions D5, D11). -/

namespace Sys2Proof

/-- What the caller uses: "Operations are selected by which block, and for `header_validator` which
port group, the caller uses" (30_encoding.md R73). The last three present a header word to a decoder
under the row of its code (30_encoding.md R76, formats PKT, TXN.TYPE and TXN.INFO). -/
inductive Select where
  | valPktWord
  | valTxnWord
  | ptypeKnown
  | typeidKnown
  | infoKnown
  | mkPkt
  | mkTxn
  | pktDecode
  | pktEncode
  | txnDecode
  | txnEncode
  | classifyInfo
  | pktRow
  | txnTypeRow
  | txnInfoRow
deriving DecidableEq, Repr

namespace Select

/-- Width of the operand pattern of spec/opcode_table.json; a host value has HOSTW bits. -/
def width : Select → Nat
  | .valPktWord => 32
  | .valTxnWord => 32
  | .ptypeKnown => 4
  | .typeidKnown => 4
  | .infoKnown => 4
  | .mkPkt => Config.HOSTW + 4
  | .mkTxn => 4 * Config.HOSTW
  | .pktDecode => 32
  | .pktEncode => 32
  | .txnDecode => 32
  | .txnEncode => 32
  | .classifyInfo => 4
  | .pktRow => 32
  | .txnTypeRow => 32
  | .txnInfoRow => 32

/-- Only the decoders and the word checks have a `strict` input (10_state.md R26 to R30). -/
def hasStrict : Select → Bool
  | .valPktWord => true
  | .valTxnWord => true
  | .ptypeKnown => false
  | .typeidKnown => false
  | .infoKnown => false
  | .mkPkt => false
  | .mkTxn => false
  | .pktDecode => true
  | .pktEncode => false
  | .txnDecode => true
  | .txnEncode => false
  | .classifyInfo => false
  | .pktRow => true
  | .txnTypeRow => true
  | .txnInfoRow => true

/-- The fixed bits of the operand pattern, all in its low word (30_encoding.md R76). An operation that READS a word reads
any word, so it has none; an encoder's pattern, and a code row, has those of its format. The pattern of
PKT_ENCODE leaves the packet ID, at its place, and the type free. -/
def fixedMask (c : Config) : Select → Word
  | .pktEncode => ~~~(c.pktIdMask ||| Config.PKT_TYPE_MASK)
  | .txnEncode => 0xF0000000
  | .pktRow => 0x200000F0
  | .txnTypeRow => 0xF0000000
  | .txnInfoRow => 0xF0000000
  | .valPktWord => 0
  | .valTxnWord => 0
  | .ptypeKnown => 0
  | .typeidKnown => 0
  | .infoKnown => 0
  | .mkPkt => 0
  | .mkTxn => 0
  | .pktDecode => 0
  | .txnDecode => 0
  | .classifyInfo => 0

/-- The values of the bits under `fixedMask`. -/
def fixedBits : Select → Word
  | .pktEncode => 0x200000F0
  | .txnEncode => 0x20000000
  | .pktRow => 0x200000F0
  | .txnTypeRow => 0x20000000
  | .txnInfoRow => 0x20000000
  | .valPktWord => 0
  | .valTxnWord => 0
  | .ptypeKnown => 0
  | .typeidKnown => 0
  | .infoKnown => 0
  | .mkPkt => 0
  | .mkTxn => 0
  | .pktDecode => 0
  | .txnDecode => 0
  | .classifyInfo => 0

end Select

/-- One presentation by the caller. `nbits` is how many operand bits are presented: a word is
presented whole or not at all (20_memory.md R44). -/
structure Request where
  sel : Select
  strict : Bool
  nbits : Nat
  bits : BitVec Config.OPERANDW
deriving DecidableEq, Repr

namespace Request

/-- The whole operand is presented: "There is no byte, halfword or partial access" (20_memory.md R44). -/
def wholeOperand (r : Request) : Bool := r.nbits == r.sel.width

/-- No bit lies above the operand. -/
def noBitAbove (r : Request) : Bool := r.bits >>> r.nbits == 0

/-- `strict` is driven only where the group has that input. -/
def strictIsAPort (r : Request) : Bool := !r.strict || r.sel.hasStrict

/-- The bits the pattern fixes have their values. -/
def fixedBitsHold (r : Request) : Bool :=
  r.bits.extractLsb' 0 32 &&& r.sel.fixedMask Config.decided == r.sel.fixedBits

def wf (r : Request) : Bool :=
  r.wholeOperand && r.noBitAbove && r.strictIsAPort && r.fixedBitsHold

end Request

/-- No two kinds of error share a code, and none has 0, the code of no error. -/
def ErrorCodes.wf (e : ErrorCodes) : Bool :=
  decide [0, e.protocolVersionMismatch, e.byteOrderMismatch, e.invalidField, e.unknownPacketType,
    e.unknownTransactionCode, e.reservedBitSet].Nodup

/-- No two outcomes share a code. -/
def OutcomeCodes.wf (o : OutcomeCodes) : Bool :=
  decide [o.success, o.recoverableBusFault, o.protocolFault].Nodup

/-- PID_LSB has the "admissible values 8 to 12" (decision D5), the two known type IDs differ (decision
D11), "any value of at least 17 is admissible" for HOSTW (00_scope.md R9), and codes tell what they name
apart (decisions D9, D16). -/
def Config.wf (c : Config) : Bool :=
  decide (8 ≤ c.pidLsb) && decide (c.pidLsb ≤ 12) && c.typeRead != c.typeWrite &&
    decide (17 ≤ c.hostW) && c.errorCodes.wf && c.outcomeCodes.wf

/-- unknown(raw) only for raw in 0x3 to 0xF (10_state.md R32). -/
def PacketType.wf : PacketType → Bool
  | .control => true
  | .status => true
  | .resend => true
  | .unknown raw => decide (3 ≤ raw.toNat)

/-- unknown(raw) only for a raw code that is not a named one (10_state.md R33). -/
def TypeId.wf (c : Config) : TypeId → Bool
  | .read => true
  | .write => true
  | .unknown raw => raw != c.typeRead && raw != c.typeWrite

/-- unknown(raw) only for the reserved codes of 30_encoding.md R68. -/
def InfoCode.wf : InfoCode → Bool
  | .requestSuccess => true
  | .badHeader => true
  | .readBusError => true
  | .writeBusError => true
  | .readBusTimeout => true
  | .writeBusTimeout => true
  | .unknownRequest => true
  | .unknown raw => [0x2, 0x3, 0x8, 0x9, 0xA, 0xB, 0xC, 0xD, 0xE].contains raw

/-- A PacketHeader record as 10_state.md R32 has it: both constants in place, a proper tag. -/
def PacketHeader.wf (h : PacketHeader) : Bool :=
  h.protocolVersion == Config.EXPECTED_VERSION && h.byteOrderQualifier == Config.BOQ_CANON &&
    h.packetType.wf

/-- "A PacketHeader is *valid for encoding* when its `packet_type` is Known" (10_state.md R32). -/
def PacketHeader.validForEncoding (h : PacketHeader) : Bool :=
  match h.packetType with
  | .control => true
  | .status => true
  | .resend => true
  | .unknown _ => false

/-- A TransactionHeader record as 10_state.md R33 has it. -/
def TransactionHeader.wf (c : Config) (h : TransactionHeader) : Bool :=
  h.protocolVersion == Config.EXPECTED_VERSION && h.typeId.wf c && h.infoCode.wf

end Sys2Proof
end

