-- ==== Sys2Proof/Decode.lean ====
section
/-! DEFINITION. From a caller's request to an instruction, total and rejecting by name, and back
(`encode`), both written from the patterns of spec/opcode_table.json and the formats of
30_encoding.md R60 and R61. The hardware has "no operation-select field, no opcode bits and no decoder
of operations" (R73): which operation is meant comes from the port group the caller uses
(`Request.sel`), never from the operand bits. -/

namespace Sys2Proof

/-- Why a request is no instruction. -/
inductive DecodeError where
  /-- Not the whole operand (20_memory.md R44). -/
  | partialOperand
  /-- A bit lies above the operand. -/
  | bitAboveOperand
  /-- `strict` is driven on a group that has no such input. -/
  | noStrictPort
  /-- The bits the pattern fixes do not hold: the word is of no row of this format. -/
  | fixedBitsDiffer
deriving DecidableEq, Repr

/-! Between bit 28 and the byte-order qualifier a packet header has twenty bits: sixteen of them, from
PID_LSB up, are the packet ID, and the other four are reserved, `pidLsb - 8` of them below it
(30_encoding.md R60, decision D5). -/

/-- How many of the four reserved bits of bits 27 to 8 lie below the packet ID. -/
def Config.reservedBelow (c : Config) : Nat := c.pidLsb - 8

/-- Bits 27 to 8 of a packet header word: the four reserved bits around the packet ID. -/
def idRegion (c : Config) (reserved : BitVec 4) (packetId : BitVec 16) : BitVec 20 :=
  (reserved >>> c.reservedBelow).setWidth 20 <<< (c.reservedBelow + 16)
    ||| packetId.setWidth 20 <<< c.reservedBelow
    ||| (reserved &&& ~~~(0xF#4 <<< c.reservedBelow)).setWidth 20

/-- The four reserved bits of bits 27 to 8. -/
def idRegionReserved (c : Config) (x : BitVec 20) : BitVec 4 :=
  (x >>> (c.reservedBelow + 16)).setWidth 4 <<< c.reservedBelow
    ||| (x.setWidth 4 &&& ~~~(0xF#4 <<< c.reservedBelow))

/-- A packet header word of packet type `t`, "rr1rrrrrpppppppppppppppp1111tttt" with the packet ID at its
place (30_encoding.md R60): `reserved` holds bits 31, 30, 28 and the four of bits 27 to 8. -/
def pktRowWord (c : Config) (t : Nibble) (reserved : BitVec 7) (packetId : BitVec 16) : Word :=
  reserved.extractLsb' 5 2 ++ 1#1 ++ reserved.extractLsb' 4 1
    ++ idRegion c (reserved.extractLsb' 0 4) packetId ++ 0xF#4 ++ t

/-- A transaction header word, "0010iiiiiiiiiiiiwwwwwwwwyyyycccc" (30_encoding.md R61). -/
def txnRowWord (transactionId : BitVec 12) (wordCount : BitVec 8) (typeId infoCode : Nibble) : Word :=
  0x2#4 ++ transactionId ++ wordCount ++ typeId ++ infoCode

/-- The seven reserved bits of a packet header word, in their order: 31, 30, 28 and the four of bits 27
to 8. -/
def reservedBits (c : Config) (w : Word) : BitVec 7 :=
  w.extractLsb' 30 2 ++ w.extractLsb' 28 1 ++ idRegionReserved c (w.extractLsb' 8 20)

/-- The row of format PKT whose code is `t` (30_encoding.md R66). -/
def pktRowInstr (t : Nibble) (reserved : BitVec 7) (packetId : BitVec 16) (strict : Bool) : Instr :=
  match t.toNat with
  | 0 => .pktControl reserved packetId strict
  | 1 => .pktStatus reserved packetId strict
  | 2 => .pktResend reserved packetId strict
  | 3 => .pktReserved3 reserved packetId strict
  | 4 => .pktReserved4 reserved packetId strict
  | 5 => .pktReserved5 reserved packetId strict
  | 6 => .pktReserved6 reserved packetId strict
  | 7 => .pktReserved7 reserved packetId strict
  | 8 => .pktReserved8 reserved packetId strict
  | 9 => .pktReserved9 reserved packetId strict
  | 10 => .pktReservedA reserved packetId strict
  | 11 => .pktReservedB reserved packetId strict
  | 12 => .pktReservedC reserved packetId strict
  | 13 => .pktReservedD reserved packetId strict
  | 14 => .pktReservedE reserved packetId strict
  | _ => .pktReservedF reserved packetId strict

/-- The row of format TXN.TYPE whose code is `y` (30_encoding.md R67). -/
def txnTypeRowInstr (y : Nibble) (transactionId : BitVec 12) (wordCount : BitVec 8) (infoCode : Nibble)
    (strict : Bool) : Instr :=
  match y.toNat with
  | 0 => .txnTypeRead transactionId wordCount infoCode strict
  | 1 => .txnTypeWrite transactionId wordCount infoCode strict
  | 2 => .txnTypeReserved2 transactionId wordCount infoCode strict
  | 3 => .txnTypeReserved3 transactionId wordCount infoCode strict
  | 4 => .txnTypeReserved4 transactionId wordCount infoCode strict
  | 5 => .txnTypeReserved5 transactionId wordCount infoCode strict
  | 6 => .txnTypeReserved6 transactionId wordCount infoCode strict
  | 7 => .txnTypeReserved7 transactionId wordCount infoCode strict
  | 8 => .txnTypeReserved8 transactionId wordCount infoCode strict
  | 9 => .txnTypeReserved9 transactionId wordCount infoCode strict
  | 10 => .txnTypeReservedA transactionId wordCount infoCode strict
  | 11 => .txnTypeReservedB transactionId wordCount infoCode strict
  | 12 => .txnTypeReservedC transactionId wordCount infoCode strict
  | 13 => .txnTypeReservedD transactionId wordCount infoCode strict
  | 14 => .txnTypeReservedE transactionId wordCount infoCode strict
  | _ => .txnTypeReservedF transactionId wordCount infoCode strict

/-- The row of format TXN.INFO whose code is `c` (30_encoding.md R68). -/
def txnInfoRowInstr (c : Nibble) (transactionId : BitVec 12) (wordCount : BitVec 8) (typeId : Nibble)
    (strict : Bool) : Instr :=
  match c.toNat with
  | 0 => .txnInfoRequestSuccess transactionId wordCount typeId strict
  | 1 => .txnInfoBadHeader transactionId wordCount typeId strict
  | 2 => .txnInfoReserved2 transactionId wordCount typeId strict
  | 3 => .txnInfoReserved3 transactionId wordCount typeId strict
  | 4 => .txnInfoReadBusError transactionId wordCount typeId strict
  | 5 => .txnInfoWriteBusError transactionId wordCount typeId strict
  | 6 => .txnInfoReadBusTimeout transactionId wordCount typeId strict
  | 7 => .txnInfoWriteBusTimeout transactionId wordCount typeId strict
  | 8 => .txnInfoReserved8 transactionId wordCount typeId strict
  | 9 => .txnInfoReserved9 transactionId wordCount typeId strict
  | 10 => .txnInfoReservedA transactionId wordCount typeId strict
  | 11 => .txnInfoReservedB transactionId wordCount typeId strict
  | 12 => .txnInfoReservedC transactionId wordCount typeId strict
  | 13 => .txnInfoReservedD transactionId wordCount typeId strict
  | 14 => .txnInfoReservedE transactionId wordCount typeId strict
  | _ => .txnInfoUnknownRequest transactionId wordCount typeId strict

/-- The operands of a well-formed request, cut out at their places in the pattern. -/
def readOperands (c : Config) (sel : Select) (strict : Bool) (b : BitVec Config.OPERANDW) : Instr :=
  match sel with
  | .valPktWord => .valPktWord (b.extractLsb' 0 32) strict
  | .valTxnWord => .valTxnWord (b.extractLsb' 0 32) strict
  | .ptypeKnown => .ptypeKnown (b.extractLsb' 0 4)
  | .typeidKnown => .typeidKnown (b.extractLsb' 0 4)
  | .infoKnown => .infoKnown (b.extractLsb' 0 4)
  | .mkPkt => .mkPkt (b.extractLsb' 4 Config.HOSTW) (b.extractLsb' 0 4)
  | .mkTxn =>
    .mkTxn (b.extractLsb' (3 * Config.HOSTW) Config.HOSTW) (b.extractLsb' (2 * Config.HOSTW) Config.HOSTW)
      (b.extractLsb' Config.HOSTW Config.HOSTW) (b.extractLsb' 0 Config.HOSTW)
  | .pktDecode => .pktDecode (b.extractLsb' 0 32) strict
  | .pktEncode => .pktEncode (b.extractLsb' c.pidLsb 16) (b.extractLsb' 0 4)
  | .txnDecode => .txnDecode (b.extractLsb' 0 32) strict
  | .txnEncode =>
    .txnEncode (b.extractLsb' 16 12) (b.extractLsb' 8 8) (b.extractLsb' 4 4) (b.extractLsb' 0 4)
  | .classifyInfo => .classifyInfo (b.extractLsb' 0 4)
  | .pktRow =>
    pktRowInstr (b.extractLsb' 0 4) (reservedBits c (b.extractLsb' 0 32)) (b.extractLsb' c.pidLsb 16) strict
  | .txnTypeRow =>
    txnTypeRowInstr (b.extractLsb' 4 4) (b.extractLsb' 16 12) (b.extractLsb' 8 8) (b.extractLsb' 0 4) strict
  | .txnInfoRow =>
    txnInfoRowInstr (b.extractLsb' 0 4) (b.extractLsb' 16 12) (b.extractLsb' 8 8) (b.extractLsb' 4 4) strict

/-- The instruction a request is, or the name of what is wrong with it. -/
def decode (r : Request) : Except DecodeError Instr :=
  if !r.wholeOperand then .error .partialOperand
  else if !r.noBitAbove then .error .bitAboveOperand
  else if !r.strictIsAPort then .error .noStrictPort
  else if !r.fixedBitsHold then .error .fixedBitsDiffer
  else .ok (readOperands Config.decided r.sel r.strict r.bits)

/-- A request for a 32-bit operand. -/
def wordRequest (sel : Select) (strict : Bool) (w : Word) : Request :=
  { sel := sel, strict := strict, nbits := 32, bits := w.setWidth _ }

/-- A request for a 4-bit operand. -/
def nibbleRequest (sel : Select) (x : Nibble) : Request :=
  { sel := sel, strict := false, nbits := 4, bits := x.setWidth _ }

/-- The request that presents an instruction: the operand patterns of spec/opcode_table.json. The word
PKT_ENCODE's pattern describes is a packet header word without a reserved bit. -/
def encode (i : Instr) : Request :=
  match i with
  | .valPktWord w strict => wordRequest .valPktWord strict w
  | .valTxnWord w strict => wordRequest .valTxnWord strict w
  | .ptypeKnown t => nibbleRequest .ptypeKnown t
  | .typeidKnown y => nibbleRequest .typeidKnown y
  | .infoKnown c => nibbleRequest .infoKnown c
  | .mkPkt id t => { sel := .mkPkt, strict := false, nbits := Config.HOSTW + 4, bits := (id ++ t).setWidth _ }
  | .mkTxn id n y c => 
    { sel := .mkTxn, strict := false, nbits := 4 * Config.HOSTW, bits := (id ++ n ++ y ++ c).setWidth _ }
  | .pktDecode w strict => wordRequest .pktDecode strict w
  | .pktEncode id t => wordRequest .pktEncode false (pktRowWord Config.decided t 0 id)
  | .txnDecode w strict => wordRequest .txnDecode strict w
  | .txnEncode id n y c => wordRequest .txnEncode false (txnRowWord id n y c)
  | .classifyInfo c => nibbleRequest .classifyInfo c
  | .pktControl r p strict => wordRequest .pktRow strict (pktRowWord Config.decided 0x0 r p)
  | .pktStatus r p strict => wordRequest .pktRow strict (pktRowWord Config.decided 0x1 r p)
  | .pktResend r p strict => wordRequest .pktRow strict (pktRowWord Config.decided 0x2 r p)
  | .pktReserved3 r p strict => wordRequest .pktRow strict (pktRowWord Config.decided 0x3 r p)
  | .pktReserved4 r p strict => wordRequest .pktRow strict (pktRowWord Config.decided 0x4 r p)
  | .pktReserved5 r p strict => wordRequest .pktRow strict (pktRowWord Config.decided 0x5 r p)
  | .pktReserved6 r p strict => wordRequest .pktRow strict (pktRowWord Config.decided 0x6 r p)
  | .pktReserved7 r p strict => wordRequest .pktRow strict (pktRowWord Config.decided 0x7 r p)
  | .pktReserved8 r p strict => wordRequest .pktRow strict (pktRowWord Config.decided 0x8 r p)
  | .pktReserved9 r p strict => wordRequest .pktRow strict (pktRowWord Config.decided 0x9 r p)
  | .pktReservedA r p strict => wordRequest .pktRow strict (pktRowWord Config.decided 0xA r p)
  | .pktReservedB r p strict => wordRequest .pktRow strict (pktRowWord Config.decided 0xB r p)
  | .pktReservedC r p strict => wordRequest .pktRow strict (pktRowWord Config.decided 0xC r p)
  | .pktReservedD r p strict => wordRequest .pktRow strict (pktRowWord Config.decided 0xD r p)
  | .pktReservedE r p strict => wordRequest .pktRow strict (pktRowWord Config.decided 0xE r p)
  | .pktReservedF r p strict => wordRequest .pktRow strict (pktRowWord Config.decided 0xF r p)
  | .txnTypeRead id n c strict => wordRequest .txnTypeRow strict (txnRowWord id n 0x0 c)
  | .txnTypeWrite id n c strict => wordRequest .txnTypeRow strict (txnRowWord id n 0x1 c)
  | .txnTypeReserved2 id n c strict => wordRequest .txnTypeRow strict (txnRowWord id n 0x2 c)
  | .txnTypeReserved3 id n c strict => wordRequest .txnTypeRow strict (txnRowWord id n 0x3 c)
  | .txnTypeReserved4 id n c strict => wordRequest .txnTypeRow strict (txnRowWord id n 0x4 c)
  | .txnTypeReserved5 id n c strict => wordRequest .txnTypeRow strict (txnRowWord id n 0x5 c)
  | .txnTypeReserved6 id n c strict => wordRequest .txnTypeRow strict (txnRowWord id n 0x6 c)
  | .txnTypeReserved7 id n c strict => wordRequest .txnTypeRow strict (txnRowWord id n 0x7 c)
  | .txnTypeReserved8 id n c strict => wordRequest .txnTypeRow strict (txnRowWord id n 0x8 c)
  | .txnTypeReserved9 id n c strict => wordRequest .txnTypeRow strict (txnRowWord id n 0x9 c)
  | .txnTypeReservedA id n c strict => wordRequest .txnTypeRow strict (txnRowWord id n 0xA c)
  | .txnTypeReservedB id n c strict => wordRequest .txnTypeRow strict (txnRowWord id n 0xB c)
  | .txnTypeReservedC id n c strict => wordRequest .txnTypeRow strict (txnRowWord id n 0xC c)
  | .txnTypeReservedD id n c strict => wordRequest .txnTypeRow strict (txnRowWord id n 0xD c)
  | .txnTypeReservedE id n c strict => wordRequest .txnTypeRow strict (txnRowWord id n 0xE c)
  | .txnTypeReservedF id n c strict => wordRequest .txnTypeRow strict (txnRowWord id n 0xF c)
  | .txnInfoRequestSuccess id n y strict => wordRequest .txnInfoRow strict (txnRowWord id n y 0x0)
  | .txnInfoBadHeader id n y strict => wordRequest .txnInfoRow strict (txnRowWord id n y 0x1)
  | .txnInfoReserved2 id n y strict => wordRequest .txnInfoRow strict (txnRowWord id n y 0x2)
  | .txnInfoReserved3 id n y strict => wordRequest .txnInfoRow strict (txnRowWord id n y 0x3)
  | .txnInfoReadBusError id n y strict => wordRequest .txnInfoRow strict (txnRowWord id n y 0x4)
  | .txnInfoWriteBusError id n y strict => wordRequest .txnInfoRow strict (txnRowWord id n y 0x5)
  | .txnInfoReadBusTimeout id n y strict => wordRequest .txnInfoRow strict (txnRowWord id n y 0x6)
  | .txnInfoWriteBusTimeout id n y strict => wordRequest .txnInfoRow strict (txnRowWord id n y 0x7)
  | .txnInfoReserved8 id n y strict => wordRequest .txnInfoRow strict (txnRowWord id n y 0x8)
  | .txnInfoReserved9 id n y strict => wordRequest .txnInfoRow strict (txnRowWord id n y 0x9)
  | .txnInfoReservedA id n y strict => wordRequest .txnInfoRow strict (txnRowWord id n y 0xA)
  | .txnInfoReservedB id n y strict => wordRequest .txnInfoRow strict (txnRowWord id n y 0xB)
  | .txnInfoReservedC id n y strict => wordRequest .txnInfoRow strict (txnRowWord id n y 0xC)
  | .txnInfoReservedD id n y strict => wordRequest .txnInfoRow strict (txnRowWord id n y 0xD)
  | .txnInfoReservedE id n y strict => wordRequest .txnInfoRow strict (txnRowWord id n y 0xE)
  | .txnInfoUnknownRequest id n y strict => wordRequest .txnInfoRow strict (txnRowWord id n y 0xF)

/-- Which port group stands for a word given WITHOUT one. The hardware has no rule for it (R73, and
20_memory.md R42); DESIGN CHOICE (assumption log 6). By length: up to 8 bits a nibble, up to 32 a header
word, up to MK_PKT's HOSTW + 4 in whole bytes MK_PKT, else MK_TXN. A header word is taken under the row of its code: a packet header by
its packet type; a transaction header with info code 0 by its type ID, one with type ID 0 by its info
code, any other as a whole word; a word of neither format goes to PKT_DECODE, which reports its error. -/
def tableSelect (nbits : Nat) (w : BitVec Config.OPERANDW) : Select :=
  if nbits ≤ 8 then .ptypeKnown
  else if 32 < nbits then if nbits ≤ (Config.HOSTW + 11) / 8 * 8 then .mkPkt else .mkTxn
  else if w &&& 0x200000F0 == 0x200000F0 then .pktRow
  else if w &&& 0xF0000000 == 0x20000000 then
    if w.extractLsb' 0 4 == 0 then .txnTypeRow
    else if w.extractLsb' 4 4 == 0 then .txnInfoRow
    else .txnDecode
  else .pktDecode

/-- The request that stands for `nbits` bits `w` of the opcode table (bits above are 0), lenient:
`strict` = 0 is the source's "non-fatal by default" behaviour (70_reset_and_hazards.md R213).
Bits that do not fit the longest operand make no request. -/
def tableRequest (nbits w : Nat) : Option Request :=
  if Config.OPERANDW < nbits || 2 ^ nbits ≤ w then none
  else
    let sel := tableSelect nbits (BitVec.ofNat _ w)
    some { sel := sel, strict := false, nbits := sel.width, bits := BitVec.ofNat _ w }

/-- The instruction the decoder reads from bits numbered as spec/opcode_table.json numbers them. -/
def decodeTableWord (nbits w : Nat) : Option Instr :=
  match tableRequest nbits w with
  | none => none
  | some r =>
    match decode r with
    | .ok i => some i
    | .error _ => none

/-- Match and mask of the instruction's row of spec/opcode_table.json, for the rows whose every word
has those bits: the code rows and the two encoders (30_encoding.md R76). -/
def Instr.tableMatchMask (i : Instr) : Option (Word × Word) :=
  match i with
  | .valPktWord _ _ => none
  | .valTxnWord _ _ => none
  | .ptypeKnown _ => none
  | .typeidKnown _ => none
  | .infoKnown _ => none
  | .mkPkt _ _ => none
  | .mkTxn _ _ _ _ => none
  | .pktDecode _ _ => none
  | .pktEncode _ _ =>
    some (0x200000F0, ~~~(Config.decided.pktIdMask ||| Config.PKT_TYPE_MASK))
  | .txnDecode _ _ => none
  | .txnEncode _ _ _ _ => some (0x20000000, 0xF0000000)
  | .classifyInfo _ => none
  | .pktControl _ _ _ => some (0x200000F0, 0x200000FF)
  | .pktStatus _ _ _ => some (0x200000F1, 0x200000FF)
  | .pktResend _ _ _ => some (0x200000F2, 0x200000FF)
  | .pktReserved3 _ _ _ => some (0x200000F3, 0x200000FF)
  | .pktReserved4 _ _ _ => some (0x200000F4, 0x200000FF)
  | .pktReserved5 _ _ _ => some (0x200000F5, 0x200000FF)
  | .pktReserved6 _ _ _ => some (0x200000F6, 0x200000FF)
  | .pktReserved7 _ _ _ => some (0x200000F7, 0x200000FF)
  | .pktReserved8 _ _ _ => some (0x200000F8, 0x200000FF)
  | .pktReserved9 _ _ _ => some (0x200000F9, 0x200000FF)
  | .pktReservedA _ _ _ => some (0x200000FA, 0x200000FF)
  | .pktReservedB _ _ _ => some (0x200000FB, 0x200000FF)
  | .pktReservedC _ _ _ => some (0x200000FC, 0x200000FF)
  | .pktReservedD _ _ _ => some (0x200000FD, 0x200000FF)
  | .pktReservedE _ _ _ => some (0x200000FE, 0x200000FF)
  | .pktReservedF _ _ _ => some (0x200000FF, 0x200000FF)
  | .txnTypeRead _ _ _ _ => some (0x20000000, 0xF00000F0)
  | .txnTypeWrite _ _ _ _ => some (0x20000010, 0xF00000F0)
  | .txnTypeReserved2 _ _ _ _ => some (0x20000020, 0xF00000F0)
  | .txnTypeReserved3 _ _ _ _ => some (0x20000030, 0xF00000F0)
  | .txnTypeReserved4 _ _ _ _ => some (0x20000040, 0xF00000F0)
  | .txnTypeReserved5 _ _ _ _ => some (0x20000050, 0xF00000F0)
  | .txnTypeReserved6 _ _ _ _ => some (0x20000060, 0xF00000F0)
  | .txnTypeReserved7 _ _ _ _ => some (0x20000070, 0xF00000F0)
  | .txnTypeReserved8 _ _ _ _ => some (0x20000080, 0xF00000F0)
  | .txnTypeReserved9 _ _ _ _ => some (0x20000090, 0xF00000F0)
  | .txnTypeReservedA _ _ _ _ => some (0x200000A0, 0xF00000F0)
  | .txnTypeReservedB _ _ _ _ => some (0x200000B0, 0xF00000F0)
  | .txnTypeReservedC _ _ _ _ => some (0x200000C0, 0xF00000F0)
  | .txnTypeReservedD _ _ _ _ => some (0x200000D0, 0xF00000F0)
  | .txnTypeReservedE _ _ _ _ => some (0x200000E0, 0xF00000F0)
  | .txnTypeReservedF _ _ _ _ => some (0x200000F0, 0xF00000F0)
  | .txnInfoRequestSuccess _ _ _ _ => some (0x20000000, 0xF000000F)
  | .txnInfoBadHeader _ _ _ _ => some (0x20000001, 0xF000000F)
  | .txnInfoReserved2 _ _ _ _ => some (0x20000002, 0xF000000F)
  | .txnInfoReserved3 _ _ _ _ => some (0x20000003, 0xF000000F)
  | .txnInfoReadBusError _ _ _ _ => some (0x20000004, 0xF000000F)
  | .txnInfoWriteBusError _ _ _ _ => some (0x20000005, 0xF000000F)
  | .txnInfoReadBusTimeout _ _ _ _ => some (0x20000006, 0xF000000F)
  | .txnInfoWriteBusTimeout _ _ _ _ => some (0x20000007, 0xF000000F)
  | .txnInfoReserved8 _ _ _ _ => some (0x20000008, 0xF000000F)
  | .txnInfoReserved9 _ _ _ _ => some (0x20000009, 0xF000000F)
  | .txnInfoReservedA _ _ _ _ => some (0x2000000A, 0xF000000F)
  | .txnInfoReservedB _ _ _ _ => some (0x2000000B, 0xF000000F)
  | .txnInfoReservedC _ _ _ _ => some (0x2000000C, 0xF000000F)
  | .txnInfoReservedD _ _ _ _ => some (0x2000000D, 0xF000000F)
  | .txnInfoReservedE _ _ _ _ => some (0x2000000E, 0xF000000F)
  | .txnInfoUnknownRequest _ _ _ _ => some (0x2000000F, 0xF000000F)

end Sys2Proof
end

