-- ==== Sys2Proof/Machine/Flags.lean ====
section
/-! DEFINITION. The known-code flags and the tagged values they stand for (40_header_validator.md R104,
R105, R108), the two pictures of an enumeration (a tagged value; a raw nibble with a `_known` flag,
decision D13), and the codes of the classifier's outputs (43_info_code_classify.md R171). -/

namespace Sys2Proof.Machine

/-! Packet type. -/

/-- `ptype_known`: "1 if t <= 2 else 0" (40_header_validator.md R104). -/
def packetTypeIsKnown (t : Nibble) : Bool := decide (t.toNat ≤ 2)

/-- "0 -> Known(Control), 1 -> Known(Status), 2 -> Known(Resend), t -> Unknown(t) otherwise" (R104). -/
def packetTypeOfNibble (t : Nibble) : PacketType :=
  match t.toNat with
  | 0 => .control
  | 1 => .status
  | 2 => .resend
  | _ => .unknown t

/-- The raw nibble of a packet type (30_encoding.md R66). -/
def packetTypeNibble : PacketType → Nibble
  | .control => 0x0
  | .status => 0x1
  | .resend => 0x2
  | .unknown raw => raw

/-! Type ID. -/

/-- `tid_known`: "1 if (y == TYPE_READ or y == TYPE_WRITE) else 0" (40_header_validator.md R105). -/
def typeIdIsKnown (c : Config) (y : Nibble) : Bool := y == c.typeRead || y == c.typeWrite

/-- "TYPE_READ -> Known(Read), TYPE_WRITE -> Known(Write), y -> Unknown(y) otherwise" (R105). -/
def typeIdOfNibble (c : Config) (y : Nibble) : TypeId :=
  if y = c.typeRead then .read else if y = c.typeWrite then .write else .unknown y

/-- The raw nibble of a type ID (30_encoding.md R67). -/
def typeIdNibble (c : Config) : TypeId → Nibble
  | .read => c.typeRead
  | .write => c.typeWrite
  | .unknown raw => raw

/-! Info code. -/

/-- The known set of 30_encoding.md R68. -/
def knownInfoCodes : List Nibble := [0x0, 0x1, 0x4, 0x5, 0x6, 0x7, 0xF]

/-- `info_known`: "1 if c in {0x0, 0x1, 0x4, 0x5, 0x6, 0x7, 0xF} else 0" (40_header_validator.md R108). -/
def infoCodeIsKnown (c : Nibble) : Bool := knownInfoCodes.contains c

/-- The names of 30_encoding.md R68; "c -> Unknown(c) otherwise" (40_header_validator.md R108). -/
def infoCodeOfNibble (c : Nibble) : InfoCode :=
  match c.toNat with
  | 0x0 => .requestSuccess
  | 0x1 => .badHeader
  | 0x4 => .readBusError
  | 0x5 => .writeBusError
  | 0x6 => .readBusTimeout
  | 0x7 => .writeBusTimeout
  | 0xF => .unknownRequest
  | _ => .unknown c

/-- The raw nibble of an info code (30_encoding.md R68). -/
def infoCodeNibble : InfoCode → Nibble
  | .requestSuccess => 0x0
  | .badHeader => 0x1
  | .readBusError => 0x4
  | .writeBusError => 0x5
  | .readBusTimeout => 0x6
  | .writeBusTimeout => 0x7
  | .unknownRequest => 0xF
  | .unknown raw => raw

/-! Classifier outputs (43_info_code_classify.md R171, decision D16). -/

/-- The code of an outcome on the 2-bit `outcome` output. -/
def outcomeCode (c : Config) : InfoOutcome → BitVec 2
  | .success => c.outcomeCodes.success
  | .recoverableBusFault _ _ => c.outcomeCodes.recoverableBusFault
  | .protocolFault => c.outcomeCodes.protocolFault

/-- "0 = read direction, 1 = write direction"; 0 for the other outcomes (R170). -/
def outcomeIsWrite : InfoOutcome → Bool
  | .success => false
  | .recoverableBusFault .read _ => false
  | .recoverableBusFault .write _ => true
  | .protocolFault => false

/-- "0 = bus error, 1 = bus timeout"; 0 for the other outcomes (R170). -/
def outcomeIsTimeout : InfoOutcome → Bool
  | .success => false
  | .recoverableBusFault _ .busError => false
  | .recoverableBusFault _ .busTimeout => true
  | .protocolFault => false

end Sys2Proof.Machine
end

