-- ==== Sys2Proof/Machine/State.lean ====
section
/-! DEFINITION. The hardware has no storage element of any kind (10_state.md R20 to R24). What a step
from state to state needs is the values on its ports: State holds one group of wires per block and
per validator port group (10_state.md R26 to R30), the inputs as the caller last presented them and the
outputs as the block answers, and beside them the caller's own list of evaluations to come
(assumption log 1 and 2). Port widths are the spec's. -/

namespace Sys2Proof.Machine

/-- One block or port group: its input wires and its output wires. -/
structure Port (I O : Type) where
  inp : I
  out : O
deriving DecidableEq, Repr

/-- The result shape of the codec blocks and constructors: `ok`, `err` and the other outputs
(10_state.md R29, decision D3). -/
structure Result (F : Type) where
  ok : Bool
  err : BitVec 3
  fields : F
deriving DecidableEq, Repr

/-- Inputs of a decoder or of a word check: the word, whole, and `strict` (10_state.md R26, R28, R30). -/
structure WordIn where
  word : Word
  strict : Bool
deriving DecidableEq, Repr

/-- Field outputs of `packet_header_decoder` (10_state.md R26). -/
structure PktDecFields where
  protocolVersion : Nibble
  packetId : BitVec 16
  byteOrderQualifier : Nibble
  packetType : Nibble
  packetTypeKnown : Bool
deriving DecidableEq, Repr

/-- Inputs of `packet_header_encoder` (10_state.md R27). -/
structure PktEncIn where
  packetId : BitVec 16
  packetType : Nibble
deriving DecidableEq, Repr

/-- Field outputs of `transaction_header_decoder` (10_state.md R28). -/
structure TxnDecFields where
  protocolVersion : Nibble
  transactionId : BitVec 12
  wordCount : BitVec 8
  typeId : Nibble
  typeIdKnown : Bool
  infoCode : Nibble
  infoCodeKnown : Bool
deriving DecidableEq, Repr

/-- Inputs of `transaction_header_encoder` (10_state.md R29); the field outputs of MK_TXN have the same
names and widths (10_state.md R30). -/
structure TxnValues where
  transactionId : BitVec 12
  wordCount : BitVec 8
  typeId : Nibble
  infoCode : Nibble
deriving DecidableEq, Repr

/-- Inputs of MK_PKT (10_state.md R30). -/
structure MkPktIn where
  packetIdIn : HostValue
  packetTypeIn : Nibble
deriving DecidableEq, Repr

/-- Field outputs of MK_PKT (10_state.md R30). -/
structure MkPktFields where
  packetId : BitVec 16
  packetType : Nibble
deriving DecidableEq, Repr

/-- Inputs of MK_TXN (10_state.md R30). -/
structure MkTxnIn where
  transactionIdIn : HostValue
  wordCountIn : HostValue
  typeIdIn : HostValue
  infoCodeIn : HostValue
deriving DecidableEq, Repr

/-- Outputs of the group INFO_KNOWN and CLASSIFY_INFO share (10_state.md R30). -/
structure InfoOut where
  known : Bool
  outcome : BitVec 2
  faultIsWrite : Bool
  faultIsTimeout : Bool
deriving DecidableEq, Repr

structure State where
  /-- `packet_header_decoder` (R26). -/
  pktDec : Port WordIn (Result PktDecFields)
  /-- `packet_header_encoder` (R27); its field output is `word`. -/
  pktEnc : Port PktEncIn (Result Word)
  /-- `transaction_header_decoder` (R28). -/
  txnDec : Port WordIn (Result TxnDecFields)
  /-- `transaction_header_encoder` (R29); its field output is `word`. -/
  txnEnc : Port TxnValues (Result Word)
  /-- VAL_PKT_WORD's group: `pkt_word`, `pkt_strict`, `pkt_err` (R30). -/
  valPkt : Port WordIn (BitVec 3)
  /-- VAL_TXN_WORD's group: `txn_word`, `txn_strict`, `txn_err` (R30). -/
  valTxn : Port WordIn (BitVec 3)
  /-- MK_PKT's group (R30). -/
  mkPkt : Port MkPktIn (Result MkPktFields)
  /-- MK_TXN's group (R30). -/
  mkTxn : Port MkTxnIn (Result TxnValues)
  /-- PTYPE_KNOWN's group: `ptype`, `ptype_known` (R30). -/
  ptype : Port Nibble Bool
  /-- TYPEID_KNOWN's group: `tid`, `tid_known` (R30). -/
  tid : Port Nibble Bool
  /-- The group of INFO_KNOWN and CLASSIFY_INFO (R30). -/
  info : Port Nibble InfoOut
  /-- The caller's, not the hardware's: the evaluations it is about to make, first one first
  (70_reset_and_hazards.md R222; assumption log 2). -/
  requests : List Request
deriving DecidableEq, Repr

/-- No fault stops this hardware: an error is a value on the outputs and the next evaluation runs as if
it had never happened (60_exceptions.md R184, R188). Nobody raises one: the type has no constructor. -/
inductive Fault where
deriving DecidableEq, Repr

/-- Why a step has no meaning. -/
inductive Refusal where
  /-- `exec`'s arm of an instruction that has no meaning yet would raise it; no arm does. Safe. -/
  | notModelled (mnemonic : String)
  /-- `step` raises it when the caller presents nothing: there is no evaluation, "such a sequence ends
  when the caller stops" (70_reset_and_hazards.md R222). Safe: nothing is claimed to happen. -/
  | nothingPresented
  /-- `step` raises it when the request is ill formed, for instance a part of a word, which no port can
  carry (20_memory.md R44). Safe: nothing is claimed to happen. -/
  | illFormedRequest (why : DecodeError)
deriving DecidableEq, Repr

/-- Just after power-up. Every input wire is at 0 (DESIGN CHOICE, assumption log 3). Every output wire
is what the operation rules give for those inputs (10_state.md R35), written out. -/
def State.reset : State where
  pktDec :=
    { inp := { word := 0, strict := false }
      out :=
        { ok := false, err := Config.decided.errorCodes.protocolVersionMismatch
          fields :=
            { protocolVersion := 0, packetId := 0, byteOrderQualifier := 0, packetType := 0
              packetTypeKnown := false } } }
  pktEnc :=
    { inp := { packetId := 0, packetType := 0 }
      out := { ok := true, err := 0, fields := 0x200000F0 } }
  txnDec :=
    { inp := { word := 0, strict := false }
      out :=
        { ok := false, err := Config.decided.errorCodes.protocolVersionMismatch
          fields :=
            { protocolVersion := 0, transactionId := 0, wordCount := 0, typeId := 0
              typeIdKnown := false, infoCode := 0, infoCodeKnown := false } } }
  txnEnc :=
    { inp := { transactionId := 0, wordCount := 0, typeId := 0, infoCode := 0 }
      out := { ok := true, err := 0, fields := 0x20000000 } }
  valPkt :=
    { inp := { word := 0, strict := false }
      out := Config.decided.errorCodes.protocolVersionMismatch }
  valTxn :=
    { inp := { word := 0, strict := false }
      out := Config.decided.errorCodes.protocolVersionMismatch }
  mkPkt :=
    { inp := { packetIdIn := 0, packetTypeIn := 0 }
      out := { ok := true, err := 0, fields := { packetId := 0, packetType := 0 } } }
  mkTxn :=
    { inp := { transactionIdIn := 0, wordCountIn := 0, typeIdIn := 0, infoCodeIn := 0 }
      out :=
        { ok := true, err := 0
          fields := { transactionId := 0, wordCount := 0, typeId := 0, infoCode := 0 } } }
  ptype := { inp := 0, out := true }
  tid := { inp := 0, out := true }
  info :=
    { inp := 0
      out :=
        { known := true, outcome := Config.decided.outcomeCodes.success, faultIsWrite := false
          faultIsTimeout := false } }
  requests := []

end Sys2Proof.Machine
end

