-- ==== Sys2Proof/Machine/Ops.lean ====
section
/-! DEFINITION. The operations every meaning shares: driving one group of wires, the error codes, what
raising an error does to the outputs (the counterpart of taking an exception) and what success does.
There is nothing to return from (60_exceptions.md R188), so nothing stands beside `raise`. -/

namespace Sys2Proof.Machine

/-- The code of a kind of error on every 3-bit `err` output (60_exceptions.md R181). -/
def errCode (c : Config) : ErrorKind → BitVec 3
  | .protocolVersionMismatch => c.errorCodes.protocolVersionMismatch
  | .byteOrderMismatch => c.errorCodes.byteOrderMismatch
  | .invalidField => c.errorCodes.invalidField
  | .unknownPacketType => c.errorCodes.unknownPacketType
  | .unknownTransactionCode => c.errorCodes.unknownTransactionCode
  | .reservedBitSet => c.errorCodes.reservedBitSet

/-- The `err` output of a word check: 0 when the word passes (60_exceptions.md R181). -/
def checkCode (c : Config) : Option ErrorKind → BitVec 3
  | none => 0
  | some e => errCode c e

/-- `raise`: "`out.ok <- 0`, `out.err <-` the code of `<Error>`", every other output of the block, here
`zero`, driven to zero (00_scope.md R15, 60_exceptions.md R183; decision D12). -/
def raise {F : Type} (c : Config) (zero : F) (e : ErrorKind) : Result F :=
  { ok := false, err := errCode c e, fields := zero }

/-- No `raise` was reached: "`out.ok <- 1` and `out.err <- 0`" (00_scope.md R15). -/
def succeed {F : Type} (fields : F) : Result F :=
  { ok := true, err := 0, fields := fields }

/-- The port picture of a model-level result, `Ok(header)` or `Err(kind)` (00_scope.md R16). -/
def report {F A : Type} (c : Config) (zero : F) (view : A → F) : Except ErrorKind A → Result F
  | .ok a => succeed (view a)
  | .error e => raise c zero e

/-- `BSWAP32(w)` is "`w[7:0] ++ w[15:8] ++ w[23:16] ++ w[31:24]`", the caller's helper
(20_memory.md R46). -/
def bswap32 (w : Word) : Word :=
  w.extractLsb' 0 8 ++ w.extractLsb' 8 8 ++ w.extractLsb' 16 8 ++ w.extractLsb' 24 8

/-! Driving one group: its wires take new values, every other wire keeps its own
(40_header_validator.md R111). -/

def State.setPktDec (s : State) (p : Port WordIn (Result PktDecFields)) : State := { s with pktDec := p }
def State.setPktEnc (s : State) (p : Port PktEncIn (Result Word)) : State := { s with pktEnc := p }
def State.setTxnDec (s : State) (p : Port WordIn (Result TxnDecFields)) : State := { s with txnDec := p }
def State.setTxnEnc (s : State) (p : Port TxnValues (Result Word)) : State := { s with txnEnc := p }
def State.setValPkt (s : State) (p : Port WordIn (BitVec 3)) : State := { s with valPkt := p }
def State.setValTxn (s : State) (p : Port WordIn (BitVec 3)) : State := { s with valTxn := p }
def State.setMkPkt (s : State) (p : Port MkPktIn (Result MkPktFields)) : State := { s with mkPkt := p }
def State.setMkTxn (s : State) (p : Port MkTxnIn (Result TxnValues)) : State := { s with mkTxn := p }
def State.setPtype (s : State) (p : Port Nibble Bool) : State := { s with ptype := p }
def State.setTid (s : State) (p : Port Nibble Bool) : State := { s with tid := p }
def State.setInfo (s : State) (p : Port Nibble InfoOut) : State := { s with info := p }
def State.setRequests (s : State) (l : List Request) : State := { s with requests := l }

end Sys2Proof.Machine
end

