-- ==== Sys2Proof/Machine/InfoGroup.lean ====
section
/-! DEFINITION. The info group of `header_validator`: INFO_KNOWN (40_header_validator.md R108) and
CLASSIFY_INFO (43_info_code_classify.md R170). The two share the one input `info` (10_state.md R30), and
"Every output is a function of the block's inputs alone" (R31): presenting an info code drives all four
outputs of the group, whichever of the two the caller is after (assumption log 5). -/

namespace Sys2Proof.Machine

/-- R170, the model-level result: bit 0 of a bus-fault code is its direction, bit 1 its kind. -/
def classifyInfoCode (c : Nibble) : InfoOutcome :=
  if c = 0x0 then .success
  else if [0x4, 0x5, 0x6, 0x7].contains c then
    .recoverableBusFault (if c.getLsbD 0 then .write else .read)
      (if c.getLsbD 1 then .busTimeout else .busError)
  else .protocolFault

/-- The four outputs of the group for an info code. -/
def infoOut (cfg : Config) (c : Nibble) : InfoOut where
  known := infoCodeIsKnown c
  outcome := outcomeCode cfg (classifyInfoCode c)
  faultIsWrite := outcomeIsWrite (classifyInfoCode c)
  faultIsTimeout := outcomeIsTimeout (classifyInfoCode c)

/-- INFO_KNOWN (R108). -/
def execInfoKnown (c : Nibble) (s : State) : Host.Outcome State Fault Refusal :=
  .next (s.setInfo { inp := c, out := infoOut Config.decided c })

/-- CLASSIFY_INFO (R170). -/
def execClassifyInfo (c : Nibble) (s : State) : Host.Outcome State Fault Refusal :=
  .next (s.setInfo { inp := c, out := infoOut Config.decided c })

end Sys2Proof.Machine
end

