-- ==== Sys2Proof/Machine/Operands.lean ====
section
/-! DEFINITION. Cutting fields out of a header word and putting them into one (30_encoding.md R63 to
R65), and the width test of the constructors (R77). -/

namespace Sys2Proof.Machine

/-- "the field value is the bits of the word under the field's mask ..., shifted right so that the
field's lowest bit is bit 0, and is unsigned" (30_encoding.md R63). -/
def takeField (w mask : Word) (shift n : Nat) : BitVec n := ((w &&& mask) >>> shift).setWidth n

/-- A field "shifted left to its position" (30_encoding.md R65). -/
def putField {n : Nat} (v : BitVec n) (shift : Nat) : Word := v.setWidth 32 <<< shift

/-! Packet header fields (30_encoding.md R60, R63, R64). -/

/-- The version check's bit: "the version check is `word[29] == 1`" (30_encoding.md R64). -/
def pktVersionBit (w : Word) : Bool := w.getLsbD Config.PKT_VERSION_BIT

/-- "`protocol_version = word[31:28] & 0x2`" (30_encoding.md R64). -/
def pktVersionOf (w : Word) : Nibble := w.extractLsb' 28 4 &&& Config.PKT_VERSION_NIBBLE_MASK

def packetIdOf (c : Config) (w : Word) : BitVec 16 := takeField w c.pktIdMask c.pidLsb 16

def byteOrderQualifierOf (w : Word) : Nibble :=
  takeField w Config.PKT_BOQ_MASK Config.PKT_BOQ_SHIFT 4

def packetTypeOf (w : Word) : Nibble := takeField w Config.PKT_TYPE_MASK 0 4

/-- "any of bits 31, 30, 28, 27 to 24 is set" (40_header_validator.md R100, 30_encoding.md R69). -/
def reservedBitIsSet (c : Config) (w : Word) : Bool := w &&& c.pktReservedMask != 0

/-! Transaction header fields (30_encoding.md R61, R63). -/

def txnVersionOf (w : Word) : Nibble :=
  takeField w Config.TXN_VERSION_MASK Config.TXN_VERSION_SHIFT 4

def transactionIdOf (w : Word) : BitVec 12 := takeField w Config.TXN_ID_MASK Config.TXN_ID_SHIFT 12

def wordCountOf (w : Word) : BitVec 8 := takeField w Config.TXN_WORDS_MASK Config.TXN_WORDS_SHIFT 8

def typeIdOf (w : Word) : Nibble := takeField w Config.TXN_TYPE_MASK Config.TXN_TYPE_SHIFT 4

def infoCodeOf (w : Word) : Nibble := takeField w Config.TXN_INFO_MASK 0 4

/-! Insertion (30_encoding.md R65). -/

/-- "`word = 0x20000000 | (zext_32(packet_id) << 8) | 0x000000F0 | zext_32(packet_type)`", the packet
ID at PID_LSB. -/
def packetWord (c : Config) (packetId : BitVec 16) (packetType : Nibble) : Word :=
  Config.PKT_VERSION_MASK ||| putField packetId c.pidLsb
    ||| putField Config.BOQ_CANON Config.PKT_BOQ_SHIFT ||| putField packetType 0

/-- "`word = (0x2 << 28) | (zext_32(transaction_id) << 16) | (zext_32(word_count) << 8) |
(zext_32(type_id) << 4) | zext_32(info_code)`". -/
def transactionWord (transactionId : BitVec 12) (wordCount : BitVec 8) (typeId infoCode : Nibble) :
    Word :=
  putField Config.EXPECTED_VERSION Config.TXN_VERSION_SHIFT
    ||| putField transactionId Config.TXN_ID_SHIFT ||| putField wordCount Config.TXN_WORDS_SHIFT
    ||| putField typeId Config.TXN_TYPE_SHIFT ||| putField infoCode 0

/-- Does an unsigned host value exceed a field of `n` bits? The test is "made on the full `HOSTW`-bit
value before any truncation" (30_encoding.md R77), whatever HOSTW is (decision D14). -/
def exceeds {h : Nat} (v : BitVec h) (n : Nat) : Bool := decide (2 ^ n - 1 < v.toNat)

end Sys2Proof.Machine
end

