-- ==== Sys2Proof/Machine/Validator.lean ====
section
/-! DEFINITION. `header_validator` but for the classifier (40_header_validator.md): the word checks, the
known-code tests and the range-checking constructors. -/

namespace Sys2Proof.Machine

/-! Word checks. -/

/-- R100: "the first clause that holds decides". -/
def checkPacketWord (c : Config) (w : Word) (strict : Bool) : Option ErrorKind :=
  if !pktVersionBit w then some .protocolVersionMismatch
  else if byteOrderQualifierOf w != Config.BOQ_CANON then some .byteOrderMismatch
  else if strict && !packetTypeIsKnown (packetTypeOf w) then some .unknownPacketType
  else if strict && reservedBitIsSet c w then some .reservedBitSet
  else none

/-- R102. -/
def checkTransactionWord (c : Config) (w : Word) (strict : Bool) : Option ErrorKind :=
  if txnVersionOf w != Config.EXPECTED_VERSION then some .protocolVersionMismatch
  else if strict && !typeIdIsKnown c (typeIdOf w) then some .unknownTransactionCode
  else if strict && !infoCodeIsKnown (infoCodeOf w) then some .unknownTransactionCode
  else none

/-- `pkt_err` for the group's inputs. -/
def valPktOut (c : Config) (i : WordIn) : BitVec 3 := checkCode c (checkPacketWord c i.word i.strict)

/-- `txn_err` for the group's inputs. -/
def valTxnOut (c : Config) (i : WordIn) : BitVec 3 :=
  checkCode c (checkTransactionWord c i.word i.strict)

/-- VAL_PKT_WORD (R100). -/
def execValPktWord (w : Word) (strict : Bool) (s : State) : Host.Outcome State Fault Refusal :=
  .next (s.setValPkt { inp := ⟨w, strict⟩, out := valPktOut Config.decided ⟨w, strict⟩ })

/-- VAL_TXN_WORD (R102). -/
def execValTxnWord (w : Word) (strict : Bool) (s : State) : Host.Outcome State Fault Refusal :=
  .next (s.setValTxn { inp := ⟨w, strict⟩, out := valTxnOut Config.decided ⟨w, strict⟩ })

/-! Known-code tests. -/

/-- PTYPE_KNOWN (R104). -/
def execPtypeKnown (t : Nibble) (s : State) : Host.Outcome State Fault Refusal :=
  .next (s.setPtype { inp := t, out := packetTypeIsKnown t })

/-- TYPEID_KNOWN (R105). -/
def execTypeidKnown (y : Nibble) (s : State) : Host.Outcome State Fault Refusal :=
  .next (s.setTid { inp := y, out := typeIdIsKnown Config.decided y })

/-! Constructors. -/

/-- R106: the packet ID is range-checked, the packet type is copied. A host value of any width. -/
def makePacket {h : Nat} (idIn : BitVec h) (t : Nibble) : Except ErrorKind MkPktFields :=
  if exceeds idIn 16 then .error .invalidField
  else .ok { packetId := idIn.setWidth 16, packetType := t }

/-- R107: "if id_in > 0xFFF or n_in > 0xFF or y_in > 0xF or c_in > 0xF then raise InvalidField". -/
def makeTransaction {h : Nat} (idIn nIn yIn cIn : BitVec h) : Except ErrorKind TxnValues :=
  if exceeds idIn 12 || exceeds nIn 8 || exceeds yIn 4 || exceeds cIn 4 then .error .invalidField
  else
    .ok
      { transactionId := idIn.setWidth 12, wordCount := nIn.setWidth 8
        typeId := yIn.setWidth 4, infoCode := cIn.setWidth 4 }

/-- "On a failed MK_PKT or MK_TXN every field output of that group is 0" (R109). -/
def mkPktZero : MkPktFields := { packetId := 0, packetType := 0 }

/-- As `mkPktZero` (R109). -/
def txnValuesZero : TxnValues := { transactionId := 0, wordCount := 0, typeId := 0, infoCode := 0 }

/-- MK_PKT's outputs for its inputs. -/
def mkPktOut (c : Config) (i : MkPktIn) : Result MkPktFields :=
  report c mkPktZero id (makePacket i.packetIdIn i.packetTypeIn)

/-- MK_TXN's outputs for its inputs. -/
def mkTxnOut (c : Config) (i : MkTxnIn) : Result TxnValues :=
  report c txnValuesZero id (makeTransaction i.transactionIdIn i.wordCountIn i.typeIdIn i.infoCodeIn)

/-- MK_PKT (R106). -/
def execMkPkt (idIn : HostValue) (t : Nibble) (s : State) : Host.Outcome State Fault Refusal :=
  .next (s.setMkPkt { inp := ⟨idIn, t⟩, out := mkPktOut Config.decided ⟨idIn, t⟩ })

/-- MK_TXN (R107). -/
def execMkTxn (idIn nIn yIn cIn : HostValue) (s : State) : Host.Outcome State Fault Refusal :=
  .next (s.setMkTxn { inp := ⟨idIn, nIn, yIn, cIn⟩, out := mkTxnOut Config.decided ⟨idIn, nIn, yIn, cIn⟩ })

end Sys2Proof.Machine
end

