-- ==== Sys2Proof/Machine/TransactionCodec.lean ====
section
/-! DEFINITION. `transaction_header_decoder` and `transaction_header_encoder`
(42_transaction_header.md). -/

namespace Sys2Proof.Machine

/-- R150, the model-level result. The checks are those of R102 ("VAL_TXN_WORD is the whole of the
validation `transaction_header_decoder` performs", R103). -/
def decodeTransactionHeader (c : Config) (w : Word) (strict : Bool) :
    Except ErrorKind TransactionHeader :=
  match checkTransactionWord c w strict with
  | some e => .error e
  | none =>
    .ok
      { protocolVersion := txnVersionOf w
        transactionId := transactionIdOf w
        wordCount := wordCountOf w
        typeId := typeIdOfNibble c (typeIdOf w)
        infoCode := infoCodeOfNibble (infoCodeOf w) }

/-- The field ports of a decoded header: raw nibbles and `_known` flags (decision D13). -/
def txnDecFieldsOf (c : Config) (h : TransactionHeader) : TxnDecFields where
  protocolVersion := h.protocolVersion
  transactionId := h.transactionId
  wordCount := h.wordCount
  typeId := typeIdNibble c h.typeId
  typeIdKnown := typeIdIsKnown c (typeIdNibble c h.typeId)
  infoCode := infoCodeNibble h.infoCode
  infoCodeKnown := infoCodeIsKnown (infoCodeNibble h.infoCode)

/-- "On any failure every field output is 0" (R150). -/
def txnDecZero : TxnDecFields :=
  { protocolVersion := 0, transactionId := 0, wordCount := 0, typeId := 0, typeIdKnown := false
    infoCode := 0, infoCodeKnown := false }

/-- The decoder's outputs for its inputs. -/
def txnDecOut (c : Config) (i : WordIn) : Result TxnDecFields :=
  report c txnDecZero (txnDecFieldsOf c) (decodeTransactionHeader c i.word i.strict)

/-- The encoder's outputs for its inputs: `ok` constant 1, `err` constant 0 (10_state.md R29). -/
def txnEncOut (i : TxnValues) : Result Word :=
  succeed (transactionWord i.transactionId i.wordCount i.typeId i.infoCode)

/-- The decoder's wires after a word is presented to it. -/
def txnDecPort (w : Word) (strict : Bool) : Port WordIn (Result TxnDecFields) :=
  { inp := ⟨w, strict⟩, out := txnDecOut Config.decided ⟨w, strict⟩ }

/-- TXN_DECODE (R150). -/
def execTxnDecode (w : Word) (strict : Bool) (s : State) : Host.Outcome State Fault Refusal :=
  .next (s.setTxnDec (txnDecPort w strict))

/-- TXN_ENCODE (R155). -/
def execTxnEncode (transactionId : BitVec 12) (wordCount : BitVec 8) (typeId infoCode : Nibble)
    (s : State) : Host.Outcome State Fault Refusal :=
  .next
    (s.setTxnEnc
      { inp := ⟨transactionId, wordCount, typeId, infoCode⟩
        out := txnEncOut ⟨transactionId, wordCount, typeId, infoCode⟩ })

end Sys2Proof.Machine
end

