-- ==== Sys2Proof/Machine/InfoRows.lean ====
section
/-! DEFINITION. The rows of format TXN.INFO (30_encoding.md R68, R76): a transaction header word that carries the
row's info code is presented to `transaction_header_decoder` (42_transaction_header.md R150; assumption
log 4). TXN_DECODE does not classify the code (R152). -/

namespace Sys2Proof.Machine

/-- Info code 0x0 (R68, R150). -/
def execTxnInfoRequestSuccess (transactionId : BitVec 12) (wordCount : BitVec 8) (typeId : Nibble) (strict : Bool)
    (s : State) : Host.Outcome State Fault Refusal :=
  .next (s.setTxnDec (txnDecPort (txnRowWord transactionId wordCount typeId 0x0) strict))

/-- Info code 0x1 (R68, R150). -/
def execTxnInfoBadHeader (transactionId : BitVec 12) (wordCount : BitVec 8) (typeId : Nibble) (strict : Bool)
    (s : State) : Host.Outcome State Fault Refusal :=
  .next (s.setTxnDec (txnDecPort (txnRowWord transactionId wordCount typeId 0x1) strict))

/-- Info code 0x2 (R68, R150). -/
def execTxnInfoReserved2 (transactionId : BitVec 12) (wordCount : BitVec 8) (typeId : Nibble) (strict : Bool)
    (s : State) : Host.Outcome State Fault Refusal :=
  .next (s.setTxnDec (txnDecPort (txnRowWord transactionId wordCount typeId 0x2) strict))

/-- Info code 0x3 (R68, R150). -/
def execTxnInfoReserved3 (transactionId : BitVec 12) (wordCount : BitVec 8) (typeId : Nibble) (strict : Bool)
    (s : State) : Host.Outcome State Fault Refusal :=
  .next (s.setTxnDec (txnDecPort (txnRowWord transactionId wordCount typeId 0x3) strict))

/-- Info code 0x4 (R68, R150). -/
def execTxnInfoReadBusError (transactionId : BitVec 12) (wordCount : BitVec 8) (typeId : Nibble) (strict : Bool)
    (s : State) : Host.Outcome State Fault Refusal :=
  .next (s.setTxnDec (txnDecPort (txnRowWord transactionId wordCount typeId 0x4) strict))

/-- Info code 0x5 (R68, R150). -/
def execTxnInfoWriteBusError (transactionId : BitVec 12) (wordCount : BitVec 8) (typeId : Nibble) (strict : Bool)
    (s : State) : Host.Outcome State Fault Refusal :=
  .next (s.setTxnDec (txnDecPort (txnRowWord transactionId wordCount typeId 0x5) strict))

/-- Info code 0x6 (R68, R150). -/
def execTxnInfoReadBusTimeout (transactionId : BitVec 12) (wordCount : BitVec 8) (typeId : Nibble) (strict : Bool)
    (s : State) : Host.Outcome State Fault Refusal :=
  .next (s.setTxnDec (txnDecPort (txnRowWord transactionId wordCount typeId 0x6) strict))

/-- Info code 0x7 (R68, R150). -/
def execTxnInfoWriteBusTimeout (transactionId : BitVec 12) (wordCount : BitVec 8) (typeId : Nibble) (strict : Bool)
    (s : State) : Host.Outcome State Fault Refusal :=
  .next (s.setTxnDec (txnDecPort (txnRowWord transactionId wordCount typeId 0x7) strict))

/-- Info code 0x8 (R68, R150). -/
def execTxnInfoReserved8 (transactionId : BitVec 12) (wordCount : BitVec 8) (typeId : Nibble) (strict : Bool)
    (s : State) : Host.Outcome State Fault Refusal :=
  .next (s.setTxnDec (txnDecPort (txnRowWord transactionId wordCount typeId 0x8) strict))

/-- Info code 0x9 (R68, R150). -/
def execTxnInfoReserved9 (transactionId : BitVec 12) (wordCount : BitVec 8) (typeId : Nibble) (strict : Bool)
    (s : State) : Host.Outcome State Fault Refusal :=
  .next (s.setTxnDec (txnDecPort (txnRowWord transactionId wordCount typeId 0x9) strict))

/-- Info code 0xA (R68, R150). -/
def execTxnInfoReservedA (transactionId : BitVec 12) (wordCount : BitVec 8) (typeId : Nibble) (strict : Bool)
    (s : State) : Host.Outcome State Fault Refusal :=
  .next (s.setTxnDec (txnDecPort (txnRowWord transactionId wordCount typeId 0xA) strict))

/-- Info code 0xB (R68, R150). -/
def execTxnInfoReservedB (transactionId : BitVec 12) (wordCount : BitVec 8) (typeId : Nibble) (strict : Bool)
    (s : State) : Host.Outcome State Fault Refusal :=
  .next (s.setTxnDec (txnDecPort (txnRowWord transactionId wordCount typeId 0xB) strict))

/-- Info code 0xC (R68, R150). -/
def execTxnInfoReservedC (transactionId : BitVec 12) (wordCount : BitVec 8) (typeId : Nibble) (strict : Bool)
    (s : State) : Host.Outcome State Fault Refusal :=
  .next (s.setTxnDec (txnDecPort (txnRowWord transactionId wordCount typeId 0xC) strict))

/-- Info code 0xD (R68, R150). -/
def execTxnInfoReservedD (transactionId : BitVec 12) (wordCount : BitVec 8) (typeId : Nibble) (strict : Bool)
    (s : State) : Host.Outcome State Fault Refusal :=
  .next (s.setTxnDec (txnDecPort (txnRowWord transactionId wordCount typeId 0xD) strict))

/-- Info code 0xE (R68, R150). -/
def execTxnInfoReservedE (transactionId : BitVec 12) (wordCount : BitVec 8) (typeId : Nibble) (strict : Bool)
    (s : State) : Host.Outcome State Fault Refusal :=
  .next (s.setTxnDec (txnDecPort (txnRowWord transactionId wordCount typeId 0xE) strict))

/-- Info code 0xF (R68, R150). -/
def execTxnInfoUnknownRequest (transactionId : BitVec 12) (wordCount : BitVec 8) (typeId : Nibble) (strict : Bool)
    (s : State) : Host.Outcome State Fault Refusal :=
  .next (s.setTxnDec (txnDecPort (txnRowWord transactionId wordCount typeId 0xF) strict))

end Sys2Proof.Machine
end

