-- ==== Sys2Proof/Machine/PacketCodec.lean ====
section
/-! DEFINITION. `packet_header_decoder` and `packet_header_encoder` (41_packet_header.md). -/

namespace Sys2Proof.Machine

/-- R130, the model-level result: "`Ok(PacketHeader{2, w[23:8], 0xF, T})` ... or `Err(kind)`". The checks
are those of R100 ("VAL_PKT_WORD is the whole of the validation `packet_header_decoder` performs", R101). -/
def decodePacketHeader (c : Config) (w : Word) (strict : Bool) : Except ErrorKind PacketHeader :=
  match checkPacketWord c w strict with
  | some e => .error e
  | none =>
    .ok
      { protocolVersion := pktVersionOf w
        packetId := packetIdOf c w
        byteOrderQualifier := byteOrderQualifierOf w
        packetType := packetTypeOfNibble (packetTypeOf w) }

/-- R135: "if t > 2 then raise InvalidField", else the word of 30_encoding.md R65. -/
def encodePacketHeader (c : Config) (packetId : BitVec 16) (t : Nibble) : Except ErrorKind Word :=
  if !packetTypeIsKnown t then .error .invalidField else .ok (packetWord c packetId t)

/-- The field ports of a decoded header: the raw nibble and its `_known` flag (decision D13). -/
def pktDecFieldsOf (h : PacketHeader) : PktDecFields where
  protocolVersion := h.protocolVersion
  packetId := h.packetId
  byteOrderQualifier := h.byteOrderQualifier
  packetType := packetTypeNibble h.packetType
  packetTypeKnown := packetTypeIsKnown (packetTypeNibble h.packetType)

/-- "On any failure every field output is 0" (R130). -/
def pktDecZero : PktDecFields :=
  { protocolVersion := 0, packetId := 0, byteOrderQualifier := 0, packetType := 0
    packetTypeKnown := false }

/-- The decoder's outputs for its inputs. -/
def pktDecOut (c : Config) (i : WordIn) : Result PktDecFields :=
  report c pktDecZero pktDecFieldsOf (decodePacketHeader c i.word i.strict)

/-- The encoder's outputs for its inputs: "On failure `word` is 0x00000000" (R135). -/
def pktEncOut (c : Config) (i : PktEncIn) : Result Word :=
  report c 0 id (encodePacketHeader c i.packetId i.packetType)

/-- The decoder's wires after a word is presented to it. -/
def pktDecPort (w : Word) (strict : Bool) : Port WordIn (Result PktDecFields) :=
  { inp := ⟨w, strict⟩, out := pktDecOut Config.decided ⟨w, strict⟩ }

/-- PKT_DECODE (R130). -/
def execPktDecode (w : Word) (strict : Bool) (s : State) : Host.Outcome State Fault Refusal :=
  .next (s.setPktDec (pktDecPort w strict))

/-- PKT_ENCODE (R135). -/
def execPktEncode (packetId : BitVec 16) (t : Nibble) (s : State) : Host.Outcome State Fault Refusal :=
  .next (s.setPktEnc { inp := ⟨packetId, t⟩, out := pktEncOut Config.decided ⟨packetId, t⟩ })

end Sys2Proof.Machine
end

