-- ==== Sys2Proof/Machine/PacketRows.lean ====
section
/-! DEFINITION. The rows of format PKT (30_encoding.md R66, R76): a packet header word that carries the row's
packet type is presented to `packet_header_decoder` (41_packet_header.md R130; assumption log 4). -/

namespace Sys2Proof.Machine

/-- Packet type 0x0 (R66, R130). -/
def execPktControl (reserved : BitVec 7) (packetId : BitVec 16) (strict : Bool) (s : State) :
    Host.Outcome State Fault Refusal :=
  .next (s.setPktDec (pktDecPort (pktRowWord Config.decided 0x0 reserved packetId) strict))

/-- Packet type 0x1 (R66, R130). -/
def execPktStatus (reserved : BitVec 7) (packetId : BitVec 16) (strict : Bool) (s : State) :
    Host.Outcome State Fault Refusal :=
  .next (s.setPktDec (pktDecPort (pktRowWord Config.decided 0x1 reserved packetId) strict))

/-- Packet type 0x2 (R66, R130). -/
def execPktResend (reserved : BitVec 7) (packetId : BitVec 16) (strict : Bool) (s : State) :
    Host.Outcome State Fault Refusal :=
  .next (s.setPktDec (pktDecPort (pktRowWord Config.decided 0x2 reserved packetId) strict))

/-- Packet type 0x3 (R66, R130). -/
def execPktReserved3 (reserved : BitVec 7) (packetId : BitVec 16) (strict : Bool) (s : State) :
    Host.Outcome State Fault Refusal :=
  .next (s.setPktDec (pktDecPort (pktRowWord Config.decided 0x3 reserved packetId) strict))

/-- Packet type 0x4 (R66, R130). -/
def execPktReserved4 (reserved : BitVec 7) (packetId : BitVec 16) (strict : Bool) (s : State) :
    Host.Outcome State Fault Refusal :=
  .next (s.setPktDec (pktDecPort (pktRowWord Config.decided 0x4 reserved packetId) strict))

/-- Packet type 0x5 (R66, R130). -/
def execPktReserved5 (reserved : BitVec 7) (packetId : BitVec 16) (strict : Bool) (s : State) :
    Host.Outcome State Fault Refusal :=
  .next (s.setPktDec (pktDecPort (pktRowWord Config.decided 0x5 reserved packetId) strict))

/-- Packet type 0x6 (R66, R130). -/
def execPktReserved6 (reserved : BitVec 7) (packetId : BitVec 16) (strict : Bool) (s : State) :
    Host.Outcome State Fault Refusal :=
  .next (s.setPktDec (pktDecPort (pktRowWord Config.decided 0x6 reserved packetId) strict))

/-- Packet type 0x7 (R66, R130). -/
def execPktReserved7 (reserved : BitVec 7) (packetId : BitVec 16) (strict : Bool) (s : State) :
    Host.Outcome State Fault Refusal :=
  .next (s.setPktDec (pktDecPort (pktRowWord Config.decided 0x7 reserved packetId) strict))

/-- Packet type 0x8 (R66, R130). -/
def execPktReserved8 (reserved : BitVec 7) (packetId : BitVec 16) (strict : Bool) (s : State) :
    Host.Outcome State Fault Refusal :=
  .next (s.setPktDec (pktDecPort (pktRowWord Config.decided 0x8 reserved packetId) strict))

/-- Packet type 0x9 (R66, R130). -/
def execPktReserved9 (reserved : BitVec 7) (packetId : BitVec 16) (strict : Bool) (s : State) :
    Host.Outcome State Fault Refusal :=
  .next (s.setPktDec (pktDecPort (pktRowWord Config.decided 0x9 reserved packetId) strict))

/-- Packet type 0xA (R66, R130). -/
def execPktReservedA (reserved : BitVec 7) (packetId : BitVec 16) (strict : Bool) (s : State) :
    Host.Outcome State Fault Refusal :=
  .next (s.setPktDec (pktDecPort (pktRowWord Config.decided 0xA reserved packetId) strict))

/-- Packet type 0xB (R66, R130). -/
def execPktReservedB (reserved : BitVec 7) (packetId : BitVec 16) (strict : Bool) (s : State) :
    Host.Outcome State Fault Refusal :=
  .next (s.setPktDec (pktDecPort (pktRowWord Config.decided 0xB reserved packetId) strict))

/-- Packet type 0xC (R66, R130). -/
def execPktReservedC (reserved : BitVec 7) (packetId : BitVec 16) (strict : Bool) (s : State) :
    Host.Outcome State Fault Refusal :=
  .next (s.setPktDec (pktDecPort (pktRowWord Config.decided 0xC reserved packetId) strict))

/-- Packet type 0xD (R66, R130). -/
def execPktReservedD (reserved : BitVec 7) (packetId : BitVec 16) (strict : Bool) (s : State) :
    Host.Outcome State Fault Refusal :=
  .next (s.setPktDec (pktDecPort (pktRowWord Config.decided 0xD reserved packetId) strict))

/-- Packet type 0xE (R66, R130). -/
def execPktReservedE (reserved : BitVec 7) (packetId : BitVec 16) (strict : Bool) (s : State) :
    Host.Outcome State Fault Refusal :=
  .next (s.setPktDec (pktDecPort (pktRowWord Config.decided 0xE reserved packetId) strict))

/-- Packet type 0xF (R66, R130). -/
def execPktReservedF (reserved : BitVec 7) (packetId : BitVec 16) (strict : Bool) (s : State) :
    Host.Outcome State Fault Refusal :=
  .next (s.setPktDec (pktDecPort (pktRowWord Config.decided 0xF reserved packetId) strict))

end Sys2Proof.Machine
end

