-- ==== Sys2Proof/Machine/TypeRows.lean ====
section
/-! DEFINITION. The rows of format TXN.TYPE (30_encoding.md R67, R76): a transaction header word that carries the
row's type ID is presented to `transaction_header_decoder` (42_transaction_header.md R150; assumption
log 4). -/

namespace Sys2Proof.Machine

/-- Type ID 0x0 (R67, R150). -/
def execTxnTypeRead (transactionId : BitVec 12) (wordCount : BitVec 8) (infoCode : Nibble) (strict : Bool)
    (s : State) : Host.Outcome State Fault Refusal :=
  .next (s.setTxnDec (txnDecPort (txnRowWord transactionId wordCount 0x0 infoCode) strict))

/-- Type ID 0x1 (R67, R150). -/
def execTxnTypeWrite (transactionId : BitVec 12) (wordCount : BitVec 8) (infoCode : Nibble) (strict : Bool)
    (s : State) : Host.Outcome State Fault Refusal :=
  .next (s.setTxnDec (txnDecPort (txnRowWord transactionId wordCount 0x1 infoCode) strict))

/-- Type ID 0x2 (R67, R150). -/
def execTxnTypeReserved2 (transactionId : BitVec 12) (wordCount : BitVec 8) (infoCode : Nibble) (strict : Bool)
    (s : State) : Host.Outcome State Fault Refusal :=
  .next (s.setTxnDec (txnDecPort (txnRowWord transactionId wordCount 0x2 infoCode) strict))

/-- Type ID 0x3 (R67, R150). -/
def execTxnTypeReserved3 (transactionId : BitVec 12) (wordCount : BitVec 8) (infoCode : Nibble) (strict : Bool)
    (s : State) : Host.Outcome State Fault Refusal :=
  .next (s.setTxnDec (txnDecPort (txnRowWord transactionId wordCount 0x3 infoCode) strict))

/-- Type ID 0x4 (R67, R150). -/
def execTxnTypeReserved4 (transactionId : BitVec 12) (wordCount : BitVec 8) (infoCode : Nibble) (strict : Bool)
    (s : State) : Host.Outcome State Fault Refusal :=
  .next (s.setTxnDec (txnDecPort (txnRowWord transactionId wordCount 0x4 infoCode) strict))

/-- Type ID 0x5 (R67, R150). -/
def execTxnTypeReserved5 (transactionId : BitVec 12) (wordCount : BitVec 8) (infoCode : Nibble) (strict : Bool)
    (s : State) : Host.Outcome State Fault Refusal :=
  .next (s.setTxnDec (txnDecPort (txnRowWord transactionId wordCount 0x5 infoCode) strict))

/-- Type ID 0x6 (R67, R150). -/
def execTxnTypeReserved6 (transactionId : BitVec 12) (wordCount : BitVec 8) (infoCode : Nibble) (strict : Bool)
    (s : State) : Host.Outcome State Fault Refusal :=
  .next (s.setTxnDec (txnDecPort (txnRowWord transactionId wordCount 0x6 infoCode) strict))

/-- Type ID 0x7 (R67, R150). -/
def execTxnTypeReserved7 (transactionId : BitVec 12) (wordCount : BitVec 8) (infoCode : Nibble) (strict : Bool)
    (s : State) : Host.Outcome State Fault Refusal :=
  .next (s.setTxnDec (txnDecPort (txnRowWord transactionId wordCount 0x7 infoCode) strict))

/-- Type ID 0x8 (R67, R150). -/
def execTxnTypeReserved8 (transactionId : BitVec 12) (wordCount : BitVec 8) (infoCode : Nibble) (strict : Bool)
    (s : State) : Host.Outcome State Fault Refusal :=
  .next (s.setTxnDec (txnDecPort (txnRowWord transactionId wordCount 0x8 infoCode) strict))

/-- Type ID 0x9 (R67, R150). -/
def execTxnTypeReserved9 (transactionId : BitVec 12) (wordCount : BitVec 8) (infoCode : Nibble) (strict : Bool)
    (s : State) : Host.Outcome State Fault Refusal :=
  .next (s.setTxnDec (txnDecPort (txnRowWord transactionId wordCount 0x9 infoCode) strict))

/-- Type ID 0xA (R67, R150). -/
def execTxnTypeReservedA (transactionId : BitVec 12) (wordCount : BitVec 8) (infoCode : Nibble) (strict : Bool)
    (s : State) : Host.Outcome State Fault Refusal :=
  .next (s.setTxnDec (txnDecPort (txnRowWord transactionId wordCount 0xA infoCode) strict))

/-- Type ID 0xB (R67, R150). -/
def execTxnTypeReservedB (transactionId : BitVec 12) (wordCount : BitVec 8) (infoCode : Nibble) (strict : Bool)
    (s : State) : Host.Outcome State Fault Refusal :=
  .next (s.setTxnDec (txnDecPort (txnRowWord transactionId wordCount 0xB infoCode) strict))

/-- Type ID 0xC (R67, R150). -/
def execTxnTypeReservedC (transactionId : BitVec 12) (wordCount : BitVec 8) (infoCode : Nibble) (strict : Bool)
    (s : State) : Host.Outcome State Fault Refusal :=
  .next (s.setTxnDec (txnDecPort (txnRowWord transactionId wordCount 0xC infoCode) strict))

/-- Type ID 0xD (R67, R150). -/
def execTxnTypeReservedD (transactionId : BitVec 12) (wordCount : BitVec 8) (infoCode : Nibble) (strict : Bool)
    (s : State) : Host.Outcome State Fault Refusal :=
  .next (s.setTxnDec (txnDecPort (txnRowWord transactionId wordCount 0xD infoCode) strict))

/-- Type ID 0xE (R67, R150). -/
def execTxnTypeReservedE (transactionId : BitVec 12) (wordCount : BitVec 8) (infoCode : Nibble) (strict : Bool)
    (s : State) : Host.Outcome State Fault Refusal :=
  .next (s.setTxnDec (txnDecPort (txnRowWord transactionId wordCount 0xE infoCode) strict))

/-- Type ID 0xF (R67, R150). -/
def execTxnTypeReservedF (transactionId : BitVec 12) (wordCount : BitVec 8) (infoCode : Nibble) (strict : Bool)
    (s : State) : Host.Outcome State Fault Refusal :=
  .next (s.setTxnDec (txnDecPort (txnRowWord transactionId wordCount 0xF infoCode) strict))

end Sys2Proof.Machine
end

