-- ==== Sys2Proof/Machine/Dispatch.lean ====
section
/-! DEFINITION. One arm per constructor of Instr, each one call of its meaning. -/

namespace Sys2Proof.Machine

def exec (i : Instr) (s : State) : Host.Outcome State Fault Refusal :=
  match i with
  | .valPktWord w strict => Sys2Proof.Machine.execValPktWord w strict s
  | .valTxnWord w strict => Sys2Proof.Machine.execValTxnWord w strict s
  | .ptypeKnown t => Sys2Proof.Machine.execPtypeKnown t s
  | .typeidKnown y => Sys2Proof.Machine.execTypeidKnown y s
  | .infoKnown c => Sys2Proof.Machine.execInfoKnown c s
  | .mkPkt id t => Sys2Proof.Machine.execMkPkt id t s
  | .mkTxn id n y c => Sys2Proof.Machine.execMkTxn id n y c s
  | .pktDecode w strict => Sys2Proof.Machine.execPktDecode w strict s
  | .pktEncode id t => Sys2Proof.Machine.execPktEncode id t s
  | .txnDecode w strict => Sys2Proof.Machine.execTxnDecode w strict s
  | .txnEncode id n y c => Sys2Proof.Machine.execTxnEncode id n y c s
  | .classifyInfo c => Sys2Proof.Machine.execClassifyInfo c s
  | .pktControl r p strict => Sys2Proof.Machine.execPktControl r p strict s
  | .pktStatus r p strict => Sys2Proof.Machine.execPktStatus r p strict s
  | .pktResend r p strict => Sys2Proof.Machine.execPktResend r p strict s
  | .pktReserved3 r p strict => Sys2Proof.Machine.execPktReserved3 r p strict s
  | .pktReserved4 r p strict => Sys2Proof.Machine.execPktReserved4 r p strict s
  | .pktReserved5 r p strict => Sys2Proof.Machine.execPktReserved5 r p strict s
  | .pktReserved6 r p strict => Sys2Proof.Machine.execPktReserved6 r p strict s
  | .pktReserved7 r p strict => Sys2Proof.Machine.execPktReserved7 r p strict s
  | .pktReserved8 r p strict => Sys2Proof.Machine.execPktReserved8 r p strict s
  | .pktReserved9 r p strict => Sys2Proof.Machine.execPktReserved9 r p strict s
  | .pktReservedA r p strict => Sys2Proof.Machine.execPktReservedA r p strict s
  | .pktReservedB r p strict => Sys2Proof.Machine.execPktReservedB r p strict s
  | .pktReservedC r p strict => Sys2Proof.Machine.execPktReservedC r p strict s
  | .pktReservedD r p strict => Sys2Proof.Machine.execPktReservedD r p strict s
  | .pktReservedE r p strict => Sys2Proof.Machine.execPktReservedE r p strict s
  | .pktReservedF r p strict => Sys2Proof.Machine.execPktReservedF r p strict s
  | .txnTypeRead id n c strict => Sys2Proof.Machine.execTxnTypeRead id n c strict s
  | .txnTypeWrite id n c strict => Sys2Proof.Machine.execTxnTypeWrite id n c strict s
  | .txnTypeReserved2 id n c strict => Sys2Proof.Machine.execTxnTypeReserved2 id n c strict s
  | .txnTypeReserved3 id n c strict => Sys2Proof.Machine.execTxnTypeReserved3 id n c strict s
  | .txnTypeReserved4 id n c strict => Sys2Proof.Machine.execTxnTypeReserved4 id n c strict s
  | .txnTypeReserved5 id n c strict => Sys2Proof.Machine.execTxnTypeReserved5 id n c strict s
  | .txnTypeReserved6 id n c strict => Sys2Proof.Machine.execTxnTypeReserved6 id n c strict s
  | .txnTypeReserved7 id n c strict => Sys2Proof.Machine.execTxnTypeReserved7 id n c strict s
  | .txnTypeReserved8 id n c strict => Sys2Proof.Machine.execTxnTypeReserved8 id n c strict s
  | .txnTypeReserved9 id n c strict => Sys2Proof.Machine.execTxnTypeReserved9 id n c strict s
  | .txnTypeReservedA id n c strict => Sys2Proof.Machine.execTxnTypeReservedA id n c strict s
  | .txnTypeReservedB id n c strict => Sys2Proof.Machine.execTxnTypeReservedB id n c strict s
  | .txnTypeReservedC id n c strict => Sys2Proof.Machine.execTxnTypeReservedC id n c strict s
  | .txnTypeReservedD id n c strict => Sys2Proof.Machine.execTxnTypeReservedD id n c strict s
  | .txnTypeReservedE id n c strict => Sys2Proof.Machine.execTxnTypeReservedE id n c strict s
  | .txnTypeReservedF id n c strict => Sys2Proof.Machine.execTxnTypeReservedF id n c strict s
  | .txnInfoRequestSuccess id n y strict => Sys2Proof.Machine.execTxnInfoRequestSuccess id n y strict s
  | .txnInfoBadHeader id n y strict => Sys2Proof.Machine.execTxnInfoBadHeader id n y strict s
  | .txnInfoReserved2 id n y strict => Sys2Proof.Machine.execTxnInfoReserved2 id n y strict s
  | .txnInfoReserved3 id n y strict => Sys2Proof.Machine.execTxnInfoReserved3 id n y strict s
  | .txnInfoReadBusError id n y strict => Sys2Proof.Machine.execTxnInfoReadBusError id n y strict s
  | .txnInfoWriteBusError id n y strict => Sys2Proof.Machine.execTxnInfoWriteBusError id n y strict s
  | .txnInfoReadBusTimeout id n y strict => Sys2Proof.Machine.execTxnInfoReadBusTimeout id n y strict s
  | .txnInfoWriteBusTimeout id n y strict => Sys2Proof.Machine.execTxnInfoWriteBusTimeout id n y strict s
  | .txnInfoReserved8 id n y strict => Sys2Proof.Machine.execTxnInfoReserved8 id n y strict s
  | .txnInfoReserved9 id n y strict => Sys2Proof.Machine.execTxnInfoReserved9 id n y strict s
  | .txnInfoReservedA id n y strict => Sys2Proof.Machine.execTxnInfoReservedA id n y strict s
  | .txnInfoReservedB id n y strict => Sys2Proof.Machine.execTxnInfoReservedB id n y strict s
  | .txnInfoReservedC id n y strict => Sys2Proof.Machine.execTxnInfoReservedC id n y strict s
  | .txnInfoReservedD id n y strict => Sys2Proof.Machine.execTxnInfoReservedD id n y strict s
  | .txnInfoReservedE id n y strict => Sys2Proof.Machine.execTxnInfoReservedE id n y strict s
  | .txnInfoUnknownRequest id n y strict => Sys2Proof.Machine.execTxnInfoUnknownRequest id n y strict s

end Sys2Proof.Machine
end

