-- ==== Sys2Proof/Machine/Step.lean ====
section
/-! DEFINITION. One step is one whole evaluation (70_reset_and_hazards.md R222): the first of the
caller's requests is decoded and run. The hardware fetches nothing (20_memory.md R55); what stands for a
fetch is the caller presenting its next request (assumption log 2 and 7). -/

namespace Sys2Proof.Machine

def step (s : State) : Host.Outcome State Fault Refusal :=
  match s.requests with
  | [] => .refused .nothingPresented
  | r :: rest =>
    match decode r with
    | .error e => .refused (.illFormedRequest e)
    | .ok i => exec i (s.setRequests rest)

/-- The caller presents, before anything else, the request that stands for `nbits` table bits `w`;
bits that make no request leave the state as it is. -/
def State.withFetchWord (s : State) (nbits w : Nat) : State :=
  match tableRequest nbits w with
  | none => s
  | some r => s.setRequests (r :: s.requests)

end Sys2Proof.Machine
end

