-- ==== Sys2Proof/Machine/Composite.lean ====
section
/-! DEFINITION. The composite operations of 30_encoding.md R75: "None is a hardware operation; each is a
sequence the source expects of the caller, written out so that a model can state it." -/

namespace Sys2Proof.Machine

/-- What PKT_DECODE_RETRY returns: the result, and whether a swap was needed. -/
structure RetryResult where
  result : Except ErrorKind PacketHeader
  swapped : Bool
deriving DecidableEq, Repr

/-- `PKT_DECODE_RETRY(w, s)` (R75): one retry on the byte-swapped word, after ByteOrderMismatch only. -/
def pktDecodeRetry (c : Config) (w : Word) (strict : Bool) : RetryResult :=
  match decodePacketHeader c w strict with
  | .error .byteOrderMismatch =>
    { result := decodePacketHeader c (bswap32 w) strict, swapped := true }
  | first => { result := first, swapped := false }

/-- `BUILD_PKT(id_in, type)` (R75). -/
def buildPkt (c : Config) {h : Nat} (idIn : BitVec h) (t : Nibble) : Except ErrorKind Word :=
  match makePacket idIn t with
  | .error e => .error e
  | .ok f => encodePacketHeader c f.packetId f.packetType

/-- `BUILD_TXN(id_in, count_in, type_in, info_in)` (R75). -/
def buildTxn {h : Nat} (idIn nIn yIn cIn : BitVec h) : Except ErrorKind Word :=
  match makeTransaction idIn nIn yIn cIn with
  | .error e => .error e
  | .ok f => .ok (transactionWord f.transactionId f.wordCount f.typeId f.infoCode)

end Sys2Proof.Machine
end

