-- ==== Sys2Proof/Safety.lean ====
section
/-! DEFINITION. What the statements say of a state: that every wire is settled, that no header is partly
filled, that every code is a legal one; and which group of ports an instruction uses. -/

namespace Sys2Proof.Machine

/-- Every group's outputs are what the operation rules give for its present inputs: "Every output is a
function of the block's inputs alone" (10_state.md R31), "at all times, including immediately after
power-up" (R35). -/
structure State.Settled (s : State) : Prop where
  pktDec : s.pktDec.out = pktDecOut Config.decided s.pktDec.inp
  pktEnc : s.pktEnc.out = pktEncOut Config.decided s.pktEnc.inp
  txnDec : s.txnDec.out = txnDecOut Config.decided s.txnDec.inp
  txnEnc : s.txnEnc.out = txnEncOut s.txnEnc.inp
  valPkt : s.valPkt.out = valPktOut Config.decided s.valPkt.inp
  valTxn : s.valTxn.out = valTxnOut Config.decided s.valTxn.inp
  mkPkt : s.mkPkt.out = mkPktOut Config.decided s.mkPkt.inp
  mkTxn : s.mkTxn.out = mkTxnOut Config.decided s.mkTxn.inp
  ptype : s.ptype.out = packetTypeIsKnown s.ptype.inp
  tid : s.tid.out = typeIdIsKnown Config.decided s.tid.inp
  info : s.info.out = infoOut Config.decided s.info.inp

/-- One result is whole: "either a fully populated header or a specific error/variant, never a partially
filled struct" (00_scope.md R15, 60_exceptions.md R183). With `ok` the code is 0; without it the code is
one of the six and the other outputs are zero. -/
def Result.Whole {F : Type} (zero : F) (r : Result F) : Prop :=
  if r.ok then r.err = 0 else (∃ e, r.err = errCode Config.decided e) ∧ r.fields = zero

/-- No group shows a partly filled header. -/
structure State.NoPartialHeader (s : State) : Prop where
  pktDec : s.pktDec.out.Whole pktDecZero
  pktEnc : s.pktEnc.out.Whole 0
  txnDec : s.txnDec.out.Whole txnDecZero
  txnEnc : s.txnEnc.out.Whole 0
  mkPkt : s.mkPkt.out.Whole mkPktZero
  mkTxn : s.mkTxn.out.Whole txnValuesZero

/-- No code that is "never produced" stands on a port: 7 on an `err` output (60_exceptions.md R181), 3 on
`outcome` (43_info_code_classify.md R171). -/
structure State.CodesLegal (s : State) : Prop where
  pktDec : s.pktDec.out.err ≠ 7
  pktEnc : s.pktEnc.out.err ≠ 7
  txnDec : s.txnDec.out.err ≠ 7
  txnEnc : s.txnEnc.out.err ≠ 7
  valPkt : s.valPkt.out ≠ 7
  valTxn : s.valTxn.out ≠ 7
  mkPkt : s.mkPkt.out.err ≠ 7
  mkTxn : s.mkTxn.out.err ≠ 7
  info : s.info.out.outcome ≠ 3

/-- The eleven groups of ports: four codec blocks and the seven groups of `header_validator`
(10_state.md R26 to R30). -/
inductive Group where
  | pktDec
  | pktEnc
  | txnDec
  | txnEnc
  | valPkt
  | valTxn
  | mkPkt
  | mkTxn
  | ptype
  | tid
  | info
deriving DecidableEq, Repr

/-- Two states agree on the wires of one group. -/
def State.AgreeOn (g : Group) (s t : State) : Prop :=
  match g with
  | .pktDec => s.pktDec = t.pktDec
  | .pktEnc => s.pktEnc = t.pktEnc
  | .txnDec => s.txnDec = t.txnDec
  | .txnEnc => s.txnEnc = t.txnEnc
  | .valPkt => s.valPkt = t.valPkt
  | .valTxn => s.valTxn = t.valTxn
  | .mkPkt => s.mkPkt = t.mkPkt
  | .mkTxn => s.mkTxn = t.mkTxn
  | .ptype => s.ptype = t.ptype
  | .tid => s.tid = t.tid
  | .info => s.info = t.info

/-- The one group of ports an instruction uses (30_encoding.md R73; 10_state.md R26 to R30). -/
def Group.ofInstr (i : Instr) : Group :=
  match i with
  | .valPktWord _ _ => .valPkt
  | .valTxnWord _ _ => .valTxn
  | .ptypeKnown _ => .ptype
  | .typeidKnown _ => .tid
  | .infoKnown _ => .info
  | .mkPkt _ _ => .mkPkt
  | .mkTxn _ _ _ _ => .mkTxn
  | .pktDecode _ _ => .pktDec
  | .pktEncode _ _ => .pktEnc
  | .txnDecode _ _ => .txnDec
  | .txnEncode _ _ _ _ => .txnEnc
  | .classifyInfo _ => .info
  | .pktControl _ _ _ => .pktDec
  | .pktStatus _ _ _ => .pktDec
  | .pktResend _ _ _ => .pktDec
  | .pktReserved3 _ _ _ => .pktDec
  | .pktReserved4 _ _ _ => .pktDec
  | .pktReserved5 _ _ _ => .pktDec
  | .pktReserved6 _ _ _ => .pktDec
  | .pktReserved7 _ _ _ => .pktDec
  | .pktReserved8 _ _ _ => .pktDec
  | .pktReserved9 _ _ _ => .pktDec
  | .pktReservedA _ _ _ => .pktDec
  | .pktReservedB _ _ _ => .pktDec
  | .pktReservedC _ _ _ => .pktDec
  | .pktReservedD _ _ _ => .pktDec
  | .pktReservedE _ _ _ => .pktDec
  | .pktReservedF _ _ _ => .pktDec
  | .txnTypeRead _ _ _ _ => .txnDec
  | .txnTypeWrite _ _ _ _ => .txnDec
  | .txnTypeReserved2 _ _ _ _ => .txnDec
  | .txnTypeReserved3 _ _ _ _ => .txnDec
  | .txnTypeReserved4 _ _ _ _ => .txnDec
  | .txnTypeReserved5 _ _ _ _ => .txnDec
  | .txnTypeReserved6 _ _ _ _ => .txnDec
  | .txnTypeReserved7 _ _ _ _ => .txnDec
  | .txnTypeReserved8 _ _ _ _ => .txnDec
  | .txnTypeReserved9 _ _ _ _ => .txnDec
  | .txnTypeReservedA _ _ _ _ => .txnDec
  | .txnTypeReservedB _ _ _ _ => .txnDec
  | .txnTypeReservedC _ _ _ _ => .txnDec
  | .txnTypeReservedD _ _ _ _ => .txnDec
  | .txnTypeReservedE _ _ _ _ => .txnDec
  | .txnTypeReservedF _ _ _ _ => .txnDec
  | .txnInfoRequestSuccess _ _ _ _ => .txnDec
  | .txnInfoBadHeader _ _ _ _ => .txnDec
  | .txnInfoReserved2 _ _ _ _ => .txnDec
  | .txnInfoReserved3 _ _ _ _ => .txnDec
  | .txnInfoReadBusError _ _ _ _ => .txnDec
  | .txnInfoWriteBusError _ _ _ _ => .txnDec
  | .txnInfoReadBusTimeout _ _ _ _ => .txnDec
  | .txnInfoWriteBusTimeout _ _ _ _ => .txnDec
  | .txnInfoReserved8 _ _ _ _ => .txnDec
  | .txnInfoReserved9 _ _ _ _ => .txnDec
  | .txnInfoReservedA _ _ _ _ => .txnDec
  | .txnInfoReservedB _ _ _ _ => .txnDec
  | .txnInfoReservedC _ _ _ _ => .txnDec
  | .txnInfoReservedD _ _ _ _ => .txnDec
  | .txnInfoReservedE _ _ _ _ => .txnDec
  | .txnInfoUnknownRequest _ _ _ _ => .txnDec

end Sys2Proof.Machine
end

