-- ==== Sys2Proof/Certificates/Slice0/Obligations.lean ====
section
/-! DEFINITION. The statements for the provers. Results are stated over bit slices and bit patterns
(the right-hand sides of the spec's rules), while the model masks, shifts and ORs (30_encoding.md R63,
R65) and goes through the tagged values of 00_scope.md R16.

Where a statement rests on one of the spec's own decisions (92_eei_decisions.md) it is 'derived': D5 the
packet ID's place, D6 the version bit, D7 and D8 the reserved-bit error and the priority, D9 and D16 the
codes, D10 and D11 the strict rejection of type IDs and their numbers, D12 the zero outputs. -/

namespace Sys2Proof.Machine

/-! The rules' own right-hand sides, over bit slices. -/

/-- The known set of info codes, written out (30_encoding.md R68). -/
def isKnownInfo (c : Nibble) : Bool :=
  c == 0x0 || c == 0x1 || c == 0x4 || c == 0x5 || c == 0x6 || c == 0x7 || c == 0xF

/-- The known set of type IDs under D11 (30_encoding.md R67). -/
def isKnownType (y : Nibble) : Bool := y == 0x0 || y == 0x1

/-- The error code a packet header word has, 0 for none: the clauses of R100 and R130 in their order,
with the numbers of R181. -/
def packetErr (w : Word) (strict : Bool) : BitVec 3 :=
  if w.getLsbD 29 = false then 1
  else if w.extractLsb' 4 4 ≠ 0xF then 2
  else if strict = true ∧ 2 < (w.extractLsb' 0 4).toNat then 4
  else if strict = true ∧ w &&& 0xDF000000#32 ≠ 0 then 6
  else 0

/-- The error code a transaction header word has, 0 for none: the clauses of R102 and R150. -/
def transactionErr (w : Word) (strict : Bool) : BitVec 3 :=
  if w.extractLsb' 28 4 ≠ 0x2 then 1
  else if strict = true ∧ isKnownType (w.extractLsb' 4 4) = false then 5
  else if strict = true ∧ isKnownInfo (w.extractLsb' 0 4) = false then 5
  else 0

/-- The last evaluation of a group raised an error (60_exceptions.md R180); the known-code tests, the
classifier and TXN_ENCODE raise none. -/
def State.FailedOn (t : State) (g : Group) : Prop :=
  match g with
  | .pktDec => t.pktDec.out.ok = false
  | .pktEnc => t.pktEnc.out.ok = false
  | .txnDec => t.txnDec.out.ok = false
  | .txnEnc => False
  | .valPkt => t.valPkt.out ≠ 0
  | .valTxn => t.valTxn.out ≠ 0
  | .mkPkt => t.mkPkt.out.ok = false
  | .mkTxn => t.mkTxn.out.ok = false
  | .ptype => False
  | .tid => False
  | .info => False

/-- The state after the packet header decoder has been shown the row word of type `t`: accepted or
refused with `code`, as the row says. -/
def State.showPktRow (s : State) (t : Nibble) (r : BitVec 7) (p : BitVec 16) (strict accepted : Bool)
    (code : BitVec 3) (known : Bool) : State :=
  { s with
    pktDec :=
      { inp := { word := pktRowWord Config.decided t r p, strict := strict }
        out :=
          if accepted then
            { ok := true, err := 0
              fields :=
                { protocolVersion := 2, packetId := p, byteOrderQualifier := 0xF, packetType := t
                  packetTypeKnown := known } }
          else
            { ok := false, err := code
              fields :=
                { protocolVersion := 0, packetId := 0, byteOrderQualifier := 0, packetType := 0
                  packetTypeKnown := false } } } }

/-- The state after the transaction header decoder has been shown a row word: accepted, or refused with
UnknownTransactionCode. -/
def State.showTxnRow (s : State) (id : BitVec 12) (n : BitVec 8) (y c : Nibble)
    (strict accepted typeKnown infoKnown : Bool) : State :=
  { s with
    txnDec :=
      { inp := { word := txnRowWord id n y c, strict := strict }
        out :=
          if accepted then
            { ok := true, err := 0
              fields :=
                { protocolVersion := 2, transactionId := id, wordCount := n, typeId := y
                  typeIdKnown := typeKnown, infoCode := c, infoCodeKnown := infoKnown } }
          else
            { ok := false, err := 5
              fields :=
                { protocolVersion := 0, transactionId := 0, wordCount := 0, typeId := 0
                  typeIdKnown := false, infoCode := 0, infoCodeKnown := false } } } }

end Sys2Proof.Machine

open Sys2Proof Sys2Proof.Machine

/-! What each instruction does, with its whole frame: the conclusion is the next state itself. -/

/-- R130 over every word and both modes: the error of highest priority with every other output 0, or
the header's fields. Rests on D5, D6, D7, D8, D9, D12. -/
def Obligations.PktDecodeDrivesTheRulesOutputs : Prop :=
  ∀ (w : Word) (strict : Bool) (s : State),
    exec (.pktDecode w strict) s = .next
      { s with
        pktDec :=
          { inp := { word := w, strict := strict }
            out :=
              if packetErr w strict = 0 then
                { ok := true, err := 0
                  fields :=
                    { protocolVersion := 2, packetId := w.extractLsb' 8 16, byteOrderQualifier := 0xF
                      packetType := w.extractLsb' 0 4
                      packetTypeKnown := decide ((w.extractLsb' 0 4).toNat ≤ 2) } }
              else
                { ok := false, err := packetErr w strict
                  fields :=
                    { protocolVersion := 0, packetId := 0, byteOrderQualifier := 0, packetType := 0
                      packetTypeKnown := false } } } }

/-- R135 over every packet ID and type nibble: the word is the pattern of a canonical word. Rests on
D5, D9, D12. -/
def Obligations.PktEncodeDrivesTheRulesOutputs : Prop :=
  ∀ (id : BitVec 16) (t : Nibble) (s : State),
    exec (.pktEncode id t) s = .next
      { s with
        pktEnc :=
          { inp := { packetId := id, packetType := t }
            out :=
              if 2 < t.toNat then { ok := false, err := 3, fields := 0x00000000#32 }
              else { ok := true, err := 0, fields := 0x20#8 ++ id ++ 0xF#4 ++ t } } }

/-- R150 over every word and both modes. Rests on D9, D10, D11, D12. -/
def Obligations.TxnDecodeDrivesTheRulesOutputs : Prop :=
  ∀ (w : Word) (strict : Bool) (s : State),
    exec (.txnDecode w strict) s = .next
      { s with
        txnDec :=
          { inp := { word := w, strict := strict }
            out :=
              if transactionErr w strict = 0 then
                { ok := true, err := 0
                  fields :=
                    { protocolVersion := 2, transactionId := w.extractLsb' 16 12
                      wordCount := w.extractLsb' 8 8, typeId := w.extractLsb' 4 4
                      typeIdKnown := isKnownType (w.extractLsb' 4 4)
                      infoCode := w.extractLsb' 0 4
                      infoCodeKnown := isKnownInfo (w.extractLsb' 0 4) } }
              else
                { ok := false, err := transactionErr w strict
                  fields :=
                    { protocolVersion := 0, transactionId := 0, wordCount := 0, typeId := 0
                      typeIdKnown := false, infoCode := 0, infoCodeKnown := false } } } }

/-- R155: the word is the OR of the shifted fields, which is the pattern of 30_encoding.md R61; it
never fails. -/
def Obligations.TxnEncodeDrivesTheRulesOutputs : Prop :=
  ∀ (id : BitVec 12) (n : BitVec 8) (y c : Nibble) (s : State),
    ∃ word : Word,
      exec (.txnEncode id n y c) s = .next
        { s with
          txnEnc :=
            { inp := { transactionId := id, wordCount := n, typeId := y, infoCode := c }
              out := { ok := true, err := 0, fields := word } } } ∧
      word = (0x2#32 <<< 28) ||| (id.setWidth 32 <<< 16) ||| (n.setWidth 32 <<< 8)
        ||| (y.setWidth 32 <<< 4) ||| c.setWidth 32 ∧
      word = 0x2#4 ++ id ++ n ++ y ++ c

/-- R100 over every word and both modes; `pkt_err` is the only output. Rests on D5 (the reserved mask),
D6, D7, D8, D9. -/
def Obligations.ValPktWordReportsTheFirstError : Prop :=
  ∀ (w : Word) (strict : Bool) (s : State),
    exec (.valPktWord w strict) s = .next
      { s with valPkt := { inp := { word := w, strict := strict }, out := packetErr w strict } }

/-- R102 over every word and both modes; `txn_err` is the only output. Rests on D9, D10, D11. -/
def Obligations.ValTxnWordReportsTheFirstError : Prop :=
  ∀ (w : Word) (strict : Bool) (s : State),
    exec (.valTxnWord w strict) s = .next
      { s with valTxn := { inp := { word := w, strict := strict }, out := transactionErr w strict } }

/-- R104, with the model-level tags of its pseudocode. -/
def Obligations.PtypeKnownIsOneUpToTwo : Prop :=
  ∀ (t : Nibble) (s : State),
    exec (.ptypeKnown t) s = .next
      { s with ptype := { inp := t, out := t == 0x0 || t == 0x1 || t == 0x2 } } ∧
    packetTypeOfNibble t =
      (if t = 0x0 then .control else if t = 0x1 then .status else if t = 0x2 then .resend
        else .unknown t)

/-- R105 with the numbers of D11. -/
def Obligations.TypeidKnownIsOneForReadAndWrite : Prop :=
  ∀ (y : Nibble) (s : State),
    exec (.typeidKnown y) s = .next { s with tid := { inp := y, out := isKnownType y } }

/-- The table of R172, all sixteen rows, for INFO_KNOWN and for CLASSIFY_INFO: the two share their input
port, so both drive the four outputs (the model's reading of R30 and R31, assumption log 5). Rests on
D16. -/
def Obligations.InfoGroupFollowsTheResultTable : Prop :=
  ∀ (c : Nibble) (s : State),
    ∃ row ∈ ([ (0x0, true, 0, false, false), (0x1, true, 2, false, false), (0x2, false, 2, false, false),
        (0x3, false, 2, false, false), (0x4, true, 1, false, false), (0x5, true, 1, true, false),
        (0x6, true, 1, false, true), (0x7, true, 1, true, true), (0x8, false, 2, false, false),
        (0x9, false, 2, false, false), (0xA, false, 2, false, false), (0xB, false, 2, false, false),
        (0xC, false, 2, false, false), (0xD, false, 2, false, false), (0xE, false, 2, false, false),
        (0xF, true, 2, false, false) ] : List (Nibble × Bool × BitVec 2 × Bool × Bool)),
      row.1 = c ∧
      exec (.infoKnown c) s = .next
        { s with
          info :=
            { inp := c
              out :=
                { known := row.2.1, outcome := row.2.2.1, faultIsWrite := row.2.2.2.1
                  faultIsTimeout := row.2.2.2.2 } } } ∧
      exec (.classifyInfo c) s = .next
        { s with
          info :=
            { inp := c
              out :=
                { known := row.2.1, outcome := row.2.2.1, faultIsWrite := row.2.2.2.1
                  faultIsTimeout := row.2.2.2.2 } } }

/-- R108, with the model-level names of its pseudocode. -/
def Obligations.InfoKnownIsOneForTheSevenNamedCodes : Prop :=
  (∀ (c : Nibble) (s : State), ∃ t : State, exec (.infoKnown c) s = .next t ∧ t.info.inp = c ∧
    t.info.out.known = isKnownInfo c ∧ (isKnownInfo c = false → infoCodeOfNibble c = .unknown c)) ∧
  [0x0, 0x1, 0x4, 0x5, 0x6, 0x7, 0xF].map infoCodeOfNibble =
    [.requestSuccess, .badHeader, .readBusError, .writeBusError, .readBusTimeout, .writeBusTimeout,
      .unknownRequest]

/-- R170 at model level: the outcome of an info code, by the code's name. -/
def Obligations.ClassificationFollowsTheNames : Prop :=
  ∀ c : Nibble, classifyInfoCode c =
    match infoCodeOfNibble c with
    | .requestSuccess => .success
    | .readBusError => .recoverableBusFault .read .busError
    | .writeBusError => .recoverableBusFault .write .busError
    | .readBusTimeout => .recoverableBusFault .read .busTimeout
    | .writeBusTimeout => .recoverableBusFault .write .busTimeout
    | .badHeader => .protocolFault
    | .unknownRequest => .protocolFault
    | .unknown _ => .protocolFault

/-- R106: the bound is inclusive and is tested before any truncation. Rests on D9, D12, D14, D15. -/
def Obligations.MkPktChecksThePacketId : Prop :=
  ∀ (id : HostValue) (t : Nibble) (s : State),
    exec (.mkPkt id t) s = .next
      { s with
        mkPkt :=
          { inp := { packetIdIn := id, packetTypeIn := t }
            out :=
              if 0xFFFF < id.toNat then
                { ok := false, err := 3, fields := { packetId := 0, packetType := 0 } }
              else
                { ok := true, err := 0
                  fields := { packetId := id.extractLsb' 0 16, packetType := t } } } }

/-- R107: four inclusive bounds, one error. Rests on D9, D12, D14. -/
def Obligations.MkTxnChecksTheFourFields : Prop :=
  ∀ (id n y c : HostValue) (s : State),
    exec (.mkTxn id n y c) s = .next
      { s with
        mkTxn :=
          { inp := { transactionIdIn := id, wordCountIn := n, typeIdIn := y, infoCodeIn := c }
            out :=
              if 0xFFF < id.toNat ∨ 0xFF < n.toNat ∨ 0xF < y.toNat ∨ 0xF < c.toNat then
                { ok := false, err := 3
                  fields := { transactionId := 0, wordCount := 0, typeId := 0, infoCode := 0 } }
              else
                { ok := true, err := 0
                  fields :=
                    { transactionId := id.extractLsb' 0 12, wordCount := n.extractLsb' 0 8
                      typeId := y.extractLsb' 0 4, infoCode := c.extractLsb' 0 4 } } } }

/-! The forty-eight code rows of the opcode table (their reading as evaluations of a decoder is the
model's: assumption log 4). -/

/-- The named packet types: accepted leniently, and strictly when no reserved bit is set. -/
def Obligations.NamedPacketTypeRowsDecode : Prop :=
  ∀ (r : BitVec 7) (p : BitVec 16) (strict : Bool) (s : State),
    exec (.pktControl r p strict) s = .next (s.showPktRow 0x0 r p strict (!strict || r == 0) 6 true) ∧
    exec (.pktStatus r p strict) s = .next (s.showPktRow 0x1 r p strict (!strict || r == 0) 6 true) ∧
    exec (.pktResend r p strict) s = .next (s.showPktRow 0x2 r p strict (!strict || r == 0) 6 true)

/-- The reserved packet types: the raw nibble is kept leniently, UnknownPacketType strictly. -/
def Obligations.ReservedPacketTypeRowsDecode : Prop :=
  ∀ (r : BitVec 7) (p : BitVec 16) (strict : Bool) (s : State),
    exec (.pktReserved3 r p strict) s = .next (s.showPktRow 0x3 r p strict (!strict) 4 false) ∧
    exec (.pktReserved4 r p strict) s = .next (s.showPktRow 0x4 r p strict (!strict) 4 false) ∧
    exec (.pktReserved5 r p strict) s = .next (s.showPktRow 0x5 r p strict (!strict) 4 false) ∧
    exec (.pktReserved6 r p strict) s = .next (s.showPktRow 0x6 r p strict (!strict) 4 false) ∧
    exec (.pktReserved7 r p strict) s = .next (s.showPktRow 0x7 r p strict (!strict) 4 false) ∧
    exec (.pktReserved8 r p strict) s = .next (s.showPktRow 0x8 r p strict (!strict) 4 false) ∧
    exec (.pktReserved9 r p strict) s = .next (s.showPktRow 0x9 r p strict (!strict) 4 false) ∧
    exec (.pktReservedA r p strict) s = .next (s.showPktRow 0xA r p strict (!strict) 4 false) ∧
    exec (.pktReservedB r p strict) s = .next (s.showPktRow 0xB r p strict (!strict) 4 false) ∧
    exec (.pktReservedC r p strict) s = .next (s.showPktRow 0xC r p strict (!strict) 4 false) ∧
    exec (.pktReservedD r p strict) s = .next (s.showPktRow 0xD r p strict (!strict) 4 false) ∧
    exec (.pktReservedE r p strict) s = .next (s.showPktRow 0xE r p strict (!strict) 4 false) ∧
    exec (.pktReservedF r p strict) s = .next (s.showPktRow 0xF r p strict (!strict) 4 false)

/-- Read and Write: accepted leniently, and strictly when the info code is known. -/
def Obligations.NamedTypeIdRowsDecode : Prop :=
  ∀ (id : BitVec 12) (n : BitVec 8) (c : Nibble) (strict : Bool) (s : State),
    exec (.txnTypeRead id n c strict) s = .next (s.showTxnRow id n 0x0 c strict (!strict || isKnownInfo c) true (isKnownInfo c)) ∧
    exec (.txnTypeWrite id n c strict) s = .next (s.showTxnRow id n 0x1 c strict (!strict || isKnownInfo c) true (isKnownInfo c))

/-- The reserved type IDs: the raw nibble is kept leniently, UnknownTransactionCode strictly. -/
def Obligations.ReservedTypeIdRowsDecode : Prop :=
  ∀ (id : BitVec 12) (n : BitVec 8) (c : Nibble) (strict : Bool) (s : State),
    exec (.txnTypeReserved2 id n c strict) s = .next (s.showTxnRow id n 0x2 c strict (!strict) false (isKnownInfo c)) ∧
    exec (.txnTypeReserved3 id n c strict) s = .next (s.showTxnRow id n 0x3 c strict (!strict) false (isKnownInfo c)) ∧
    exec (.txnTypeReserved4 id n c strict) s = .next (s.showTxnRow id n 0x4 c strict (!strict) false (isKnownInfo c)) ∧
    exec (.txnTypeReserved5 id n c strict) s = .next (s.showTxnRow id n 0x5 c strict (!strict) false (isKnownInfo c)) ∧
    exec (.txnTypeReserved6 id n c strict) s = .next (s.showTxnRow id n 0x6 c strict (!strict) false (isKnownInfo c)) ∧
    exec (.txnTypeReserved7 id n c strict) s = .next (s.showTxnRow id n 0x7 c strict (!strict) false (isKnownInfo c)) ∧
    exec (.txnTypeReserved8 id n c strict) s = .next (s.showTxnRow id n 0x8 c strict (!strict) false (isKnownInfo c)) ∧
    exec (.txnTypeReserved9 id n c strict) s = .next (s.showTxnRow id n 0x9 c strict (!strict) false (isKnownInfo c)) ∧
    exec (.txnTypeReservedA id n c strict) s = .next (s.showTxnRow id n 0xA c strict (!strict) false (isKnownInfo c)) ∧
    exec (.txnTypeReservedB id n c strict) s = .next (s.showTxnRow id n 0xB c strict (!strict) false (isKnownInfo c)) ∧
    exec (.txnTypeReservedC id n c strict) s = .next (s.showTxnRow id n 0xC c strict (!strict) false (isKnownInfo c)) ∧
    exec (.txnTypeReservedD id n c strict) s = .next (s.showTxnRow id n 0xD c strict (!strict) false (isKnownInfo c)) ∧
    exec (.txnTypeReservedE id n c strict) s = .next (s.showTxnRow id n 0xE c strict (!strict) false (isKnownInfo c)) ∧
    exec (.txnTypeReservedF id n c strict) s = .next (s.showTxnRow id n 0xF c strict (!strict) false (isKnownInfo c))

/-- The named info codes: accepted leniently, and strictly when the type ID is known. -/
def Obligations.NamedInfoCodeRowsDecode : Prop :=
  ∀ (id : BitVec 12) (n : BitVec 8) (y : Nibble) (strict : Bool) (s : State),
    exec (.txnInfoRequestSuccess id n y strict) s = .next (s.showTxnRow id n y 0x0 strict (!strict || isKnownType y) (isKnownType y) true) ∧
    exec (.txnInfoBadHeader id n y strict) s = .next (s.showTxnRow id n y 0x1 strict (!strict || isKnownType y) (isKnownType y) true) ∧
    exec (.txnInfoReadBusError id n y strict) s = .next (s.showTxnRow id n y 0x4 strict (!strict || isKnownType y) (isKnownType y) true) ∧
    exec (.txnInfoWriteBusError id n y strict) s = .next (s.showTxnRow id n y 0x5 strict (!strict || isKnownType y) (isKnownType y) true) ∧
    exec (.txnInfoReadBusTimeout id n y strict) s = .next (s.showTxnRow id n y 0x6 strict (!strict || isKnownType y) (isKnownType y) true) ∧
    exec (.txnInfoWriteBusTimeout id n y strict) s = .next (s.showTxnRow id n y 0x7 strict (!strict || isKnownType y) (isKnownType y) true) ∧
    exec (.txnInfoUnknownRequest id n y strict) s = .next (s.showTxnRow id n y 0xF strict (!strict || isKnownType y) (isKnownType y) true)

/-- The reserved info codes: the raw nibble is kept leniently, UnknownTransactionCode strictly. -/
def Obligations.ReservedInfoCodeRowsDecode : Prop :=
  ∀ (id : BitVec 12) (n : BitVec 8) (y : Nibble) (strict : Bool) (s : State),
    exec (.txnInfoReserved2 id n y strict) s = .next (s.showTxnRow id n y 0x2 strict (!strict) (isKnownType y) false) ∧
    exec (.txnInfoReserved3 id n y strict) s = .next (s.showTxnRow id n y 0x3 strict (!strict) (isKnownType y) false) ∧
    exec (.txnInfoReserved8 id n y strict) s = .next (s.showTxnRow id n y 0x8 strict (!strict) (isKnownType y) false) ∧
    exec (.txnInfoReserved9 id n y strict) s = .next (s.showTxnRow id n y 0x9 strict (!strict) (isKnownType y) false) ∧
    exec (.txnInfoReservedA id n y strict) s = .next (s.showTxnRow id n y 0xA strict (!strict) (isKnownType y) false) ∧
    exec (.txnInfoReservedB id n y strict) s = .next (s.showTxnRow id n y 0xB strict (!strict) (isKnownType y) false) ∧
    exec (.txnInfoReservedC id n y strict) s = .next (s.showTxnRow id n y 0xC strict (!strict) (isKnownType y) false) ∧
    exec (.txnInfoReservedD id n y strict) s = .next (s.showTxnRow id n y 0xD strict (!strict) (isKnownType y) false) ∧
    exec (.txnInfoReservedE id n y strict) s = .next (s.showTxnRow id n y 0xE strict (!strict) (isKnownType y) false)

/-! Whole-machine rules. -/

/-- R3 and R111: every operation is total; its outputs are a function of its own inputs alone, whatever
any other wire holds (`s` and `s'` are any two states); repeated it gives the same result; and it changes
no wire of another group of ports, and not the caller's list. -/
def Obligations.EvaluationsArePureFunctionsOfTheirInputs : Prop :=
  ∀ i : Instr, ∀ s s' : State, ∃ t t' : State,
    exec i s = .next t ∧ exec i s' = .next t' ∧
    t.AgreeOn (Group.ofInstr i) t' ∧
    exec i t = .next t ∧
    t.requests = s.requests ∧ ∀ g : Group, g ≠ Group.ofInstr i → t.AgreeOn g s

/-- R52: evaluations on different groups give the same state in either order. -/
def Obligations.EvaluationsOnDifferentGroupsCommute : Prop :=
  ∀ (i j : Instr) (s : State), Group.ofInstr i ≠ Group.ofInstr j →
    ∃ ti tj u : State,
      exec i s = .next ti ∧ exec j ti = .next u ∧ exec j s = .next tj ∧ exec i tj = .next u

/-- R188: "The evaluation after a failed one behaves exactly as it would have had the failure never
happened": with or without the failed evaluation `i` before it, `j` gives the same wires, but for those
that still show `i`'s own inputs and error. -/
def Obligations.FailureDoesNotTouchTheNextEvaluation : Prop :=
  ∀ (i j : Instr) (s t : State), exec i s = .next t → t.FailedOn (Group.ofInstr i) →
    ∃ u v : State, exec j t = .next u ∧ exec j s = .next v ∧
      ∀ g : Group, g ≠ Group.ofInstr i ∨ g = Group.ofInstr j → u.AgreeOn g v

/-- R31, R35: every step keeps the outputs at what the rules give for the present inputs. -/
def Obligations.StepKeepsOutputsSettled : Prop :=
  ∀ s s' : State, s.Settled → step s = .next s' → s'.Settled

/-- R35: the outputs are settled from power-up (the inputs at reset are the model's choice, log 3). -/
def Obligations.ResetOutputsAreSettled : Prop := State.reset.Settled

/-- R15, R183: no step leaves a partly filled header on the ports. Rests on D12. -/
def Obligations.StepKeepsNoPartialHeader : Prop :=
  ∀ s s' : State, s.NoPartialHeader → step s = .next s' → s'.NoPartialHeader

/-- Of every settled state, so of power-up and of every state a run from there reaches. Rests on D12. -/
def Obligations.SettledStatesShowNoPartialHeader : Prop :=
  ∀ s : State, s.Settled → s.NoPartialHeader

/-- R181 "7 is never produced", R171 "the value 3 is never produced". Rests on D9, D16. -/
def Obligations.StepKeepsCodesLegal : Prop :=
  ∀ s s' : State, s.CodesLegal → step s = .next s' → s'.CodesLegal

/-- Power-up shows no illegal code (the inputs at reset are the model's choice, log 3). -/
def Obligations.ResetCodesAreLegal : Prop := State.reset.CodesLegal

/-! From a request to an instruction. -/

/-- A step decodes the caller's first request and runs the instruction; with no request, or an ill-formed
one, it names why not. The model's choice: the list of requests and the refusal of an empty one are
assumption log 2, the request and the refusal of an ill-formed one log 19. -/
def Obligations.StepRunsTheDecodedInstruction : Prop :=
  (∀ (s : State) (r : Request) (rest : List Request) (i : Instr),
    s.requests = r :: rest → decode r = .ok i → step s = exec i { s with requests := rest }) ∧
  (∀ s : State, s.requests = [] → step s = .refused .nothingPresented) ∧
  (∀ (s : State) (r : Request) (rest : List Request) (e : DecodeError),
    s.requests = r :: rest → decode r = .error e → step s = .refused (.illFormedRequest e))

/-- Every instruction can be presented, and a step then runs it and takes it off the list. The list is the
model's choice (assumption log 2), and so is the request `encode` answers with (log 19). -/
def Obligations.EveryInstructionRunsWhenPresented : Prop :=
  ∀ (i : Instr) (s : State) (rest : List Request),
    ∃ t : State, step { s with requests := encode i :: rest } = .next t ∧
      exec i { s with requests := rest } = .next t ∧ t.requests = rest

/-- Decode and encode agree on every instruction with every operand, at the decided packet ID place (D5,
assumption log 8). The picture of a request is the model's (assumption log 19). -/
def Obligations.DecodeInvertsEncode : Prop := ∀ i : Instr, decode (encode i) = .ok i

/-- The other direction: a request has one meaning, and no bit of it is dropped. The picture of a request
is the model's (assumption log 19). -/
def Obligations.EncodeInvertsDecode : Prop :=
  ∀ (r : Request) (i : Instr), decode r = .ok i → encode i = r

/-- Decoding accepts exactly the well-formed requests: the whole operand, no bit above it, `strict` only
where there is such an input, the fixed bits of the pattern in place. The picture of a request, and which
requests are refused, are the model's (assumption log 19). -/
def Obligations.DecodeAcceptsExactlyWellFormedRequests : Prop :=
  ∀ r : Request, (∃ i : Instr, decode r = .ok i) ↔ r.wf = true

/-- The word of every code row and of the encoders has its row's match under its row's mask
(30_encoding.md R76). PKT_ENCODE's mask leaves the packet ID free at its decided place (D5, assumption log 8). -/
def Obligations.RowWordsHaveTheTablesFixedBits : Prop :=
  ∀ (i : Instr) (fixed mask : Word), i.tableMatchMask = some (fixed, mask) →
    (encode i).bits.extractLsb' 0 32 &&& mask = fixed

/-- Words written out from the spec decode to the instructions they stand for. The packet ID 0x1234 at bits
23 to 8 in the second and the fourth is decision D5 (PRESUMED, assumption log 8); that type ID 0x1 in the
fifth is Write is D11 (PRESUMED, log 9). The requests that carry the words are the model's (log 19). -/
def Obligations.WrittenOutWordsDecode : Prop :=
  decode ⟨.pktDecode, false, 32, 0b00100000000100100011010011110001#128⟩
    = .ok (.pktDecode 0x201234F1 false) ∧
  decode ⟨.pktEncode, false, 32, 0b00100000000100100011010011110001#128⟩
    = .ok (.pktEncode 0x1234 0x1) ∧
  decode ⟨.txnEncode, false, 32, 0b00100000000000010000010000010000#128⟩
    = .ok (.txnEncode 0x001 0x04 0x1 0x0) ∧
  decode ⟨.pktRow, true, 32, 0b00100000000100100011010011110001#128⟩
    = .ok (.pktStatus 0 0x1234 true) ∧
  decode ⟨.txnTypeRow, false, 32, 0b00100000000000010000010000010000#128⟩
    = .ok (.txnTypeWrite 0x001 0x04 0x0 false) ∧
  decode ⟨.txnInfoRow, false, 32, 0b00101010101111000000000000010101#128⟩
    = .ok (.txnInfoWriteBusError 0xABC 0x00 0x1 false)

/-- The host's entry: table bits that decode are what the very next step runs. The entry is the model's
choice, since the hardware fetches nothing (20_memory.md R55): presenting first is assumption log 7, the
port group that stands for bits log 6. -/
def Obligations.FetchedTableWordRunsNext : Prop :=
  ∀ (s : State) (nbits w : Nat) (i : Instr), decodeTableWord nbits w = some i →
    step (s.withFetchWord nbits w) = exec i s

/-! The codec laws, at model level, for every admissible configuration (R9, D5, D11). -/

/-- R101 and R103: the word checks are the whole of the decoders' validation. -/
def Obligations.DecodersFailExactlyWithTheWordChecks : Prop :=
  ∀ (w : Word) (strict : Bool) (s t u : State),
    (exec (.valPktWord w strict) s = .next t → exec (.pktDecode w strict) t = .next u →
      (u.pktDec.out.ok = false ↔ u.valPkt.out ≠ 0) ∧ u.pktDec.out.err = u.valPkt.out) ∧
    (exec (.valTxnWord w strict) s = .next t → exec (.txnDecode w strict) t = .next u →
      (u.txnDec.out.ok = false ↔ u.valTxn.out ≠ 0) ∧ u.txnDec.out.err = u.valTxn.out)

/-- R71: the words no mode accepts, and no others: leniently every other word decodes. -/
def Obligations.WordsNoModeAccepts : Prop :=
  ∀ (c : Config) (w : Word) (strict : Bool),
    (w.getLsbD 29 = false → decodePacketHeader c w strict = .error .protocolVersionMismatch) ∧
    (w.getLsbD 29 = true → w.extractLsb' 4 4 ≠ 0xF →
      decodePacketHeader c w strict = .error .byteOrderMismatch) ∧
    (w.extractLsb' 28 4 ≠ 0x2 →
      decodeTransactionHeader c w strict = .error .protocolVersionMismatch) ∧
    (w.getLsbD 29 = true → w.extractLsb' 4 4 = 0xF → ∃ h, decodePacketHeader c w false = .ok h) ∧
    (w.extractLsb' 28 4 = 0x2 → ∃ h, decodeTransactionHeader c w false = .ok h)

/-- R63, R60 for every place of the packet ID: a decoded header's fields are the word's slices. -/
def Obligations.DecodedPacketFieldsAreTheWordsSlices : Prop :=
  ∀ (c : Config) (w : Word) (strict : Bool) (h : PacketHeader), c.wf = true →
    decodePacketHeader c w strict = .ok h →
    h.protocolVersion = 2 ∧ h.packetId = w.extractLsb' c.pidLsb 16 ∧ h.byteOrderQualifier = 0xF ∧
      packetTypeNibble h.packetType = w.extractLsb' 0 4

/-- R32, R33: what a decoder answers is a header record with every tag in its place. -/
def Obligations.DecodedHeadersAreWellFormed : Prop :=
  ∀ (c : Config) (w : Word) (strict : Bool), c.wf = true →
    (∀ h, decodePacketHeader c w strict = .ok h → h.wf = true) ∧
    (∀ h, decodeTransactionHeader c w strict = .ok h → h.wf c = true)

/-- R16, D13 "lossless both ways": every nibble survives its tag, a tag is `unknown` exactly when the code is
not known, and every well-formed tag (10_state.md R32, R33) survives its nibble. -/
def Obligations.EnumerationPicturesAreLossless : Prop :=
  (∀ (c : Config) (x : Nibble),
    packetTypeNibble (packetTypeOfNibble x) = x ∧ typeIdNibble c (typeIdOfNibble c x) = x ∧
    infoCodeNibble (infoCodeOfNibble x) = x ∧
    (packetTypeOfNibble x = .unknown x ↔ packetTypeIsKnown x = false) ∧
    (typeIdOfNibble c x = .unknown x ↔ typeIdIsKnown c x = false) ∧
    (infoCodeOfNibble x = .unknown x ↔ infoCodeIsKnown x = false)) ∧
  (∀ t : PacketType, t.wf = true → packetTypeOfNibble (packetTypeNibble t) = t) ∧
  (∀ (c : Config) (y : TypeId), c.wf = true → y.wf c = true → typeIdOfNibble c (typeIdNibble c y) = y) ∧
  (∀ i : InfoCode, i.wf = true → infoCodeOfNibble (infoCodeNibble i) = i)

/-- R25: the five packet header masks share no bit and cover the word, wherever the packet ID stands; with
the decided place the reserved mask is 0xDF000000 (D5). -/
def Obligations.PacketMasksPartitionTheWord : Prop :=
  (∀ c : Config, c.wf = true →
    (Config.PKT_VERSION_MASK ||| c.pktIdMask ||| Config.PKT_BOQ_MASK ||| Config.PKT_TYPE_MASK
      ||| c.pktReservedMask) = 0xFFFFFFFF#32 ∧
    [Config.PKT_VERSION_MASK, c.pktIdMask, Config.PKT_BOQ_MASK, Config.PKT_TYPE_MASK,
      c.pktReservedMask].Pairwise (fun a b => a &&& b = 0)) ∧
  Config.decided.pktReservedMask = 0xDF000000#32

/-- R69, lenient half: "On a lenient decode they do not affect any output". -/
def Obligations.ReservedBitsDoNotMatterLeniently : Prop :=
  ∀ (c : Config) (v w : Word), c.wf = true → v &&& ~~~c.pktReservedMask = w &&& ~~~c.pktReservedMask →
    decodePacketHeader c v false = decodePacketHeader c w false

/-- R132: strict against lenient on packet headers. Rests on D7, D8. -/
def Obligations.StrictRefinesLenientOnPackets : Prop :=
  ∀ (c : Config) (w : Word),
    (∀ e, decodePacketHeader c w false = .error e → decodePacketHeader c w true = .error e) ∧
    (∀ h, decodePacketHeader c w true = .ok h → decodePacketHeader c w false = .ok h) ∧
    (∀ h e, decodePacketHeader c w false = .ok h → decodePacketHeader c w true = .error e →
      w.getLsbD 29 = true ∧ w.extractLsb' 4 4 = 0xF ∧
      (2 < (w.extractLsb' 0 4).toNat ∧ e = .unknownPacketType ∨
        (w.extractLsb' 0 4).toNat ≤ 2 ∧ w &&& c.pktReservedMask ≠ 0 ∧ e = .reservedBitSet)) ∧
    (w.getLsbD 29 = true → w.extractLsb' 4 4 = 0xF →
      (2 < (w.extractLsb' 0 4).toNat ∨ w &&& c.pktReservedMask ≠ 0) →
      ∃ e, decodePacketHeader c w true = .error e)

/-- R151: strict against lenient on transaction headers. Rests on D10. -/
def Obligations.StrictRefinesLenientOnTransactions : Prop :=
  ∀ (c : Config) (w : Word),
    (∀ e, decodeTransactionHeader c w false = .error e →
      e = .protocolVersionMismatch ∧ decodeTransactionHeader c w true = .error e) ∧
    (∀ h, decodeTransactionHeader c w true = .ok h →
      decodeTransactionHeader c w false = .ok h ∧
      typeIdIsKnown c (typeIdNibble c h.typeId) = true ∧
      infoCodeIsKnown (infoCodeNibble h.infoCode) = true) ∧
    (w.extractLsb' 28 4 = 0x2 →
      ((w.extractLsb' 4 4 ≠ c.typeRead ∧ w.extractLsb' 4 4 ≠ c.typeWrite ∨
          isKnownInfo (w.extractLsb' 0 4) = false) ↔
        decodeTransactionHeader c w true = .error .unknownTransactionCode))

/-- R136: encode then decode, every packet ID and named type, both modes. -/
def Obligations.PacketDecodeOfEncode : Prop :=
  ∀ (c : Config) (id : BitVec 16) (t : Nibble) (strict : Bool), c.wf = true → t.toNat ≤ 2 →
    ∃ w h, encodePacketHeader c id t = .ok w ∧ decodePacketHeader c w strict = .ok h ∧
      h.packetId = id ∧ packetTypeNibble h.packetType = t ∧
      packetTypeIsKnown (packetTypeNibble h.packetType) = true ∧
      h.protocolVersion = 2 ∧ h.byteOrderQualifier = 0xF

/-- R137: decode then encode clears the reserved bits and changes nothing else; after a strict decode it
is the word itself; an unknown type cannot be encoded. -/
def Obligations.PacketEncodeOfDecode : Prop :=
  ∀ (c : Config) (w : Word) (strict : Bool) (h : PacketHeader), c.wf = true →
    decodePacketHeader c w strict = .ok h →
    (h.validForEncoding = true →
      encodePacketHeader c h.packetId (packetTypeNibble h.packetType)
        = .ok (w &&& ~~~c.pktReservedMask)) ∧
    (strict = true → h.validForEncoding = true ∧ w &&& ~~~c.pktReservedMask = w) ∧
    (h.validForEncoding = false →
      encodePacketHeader c h.packetId (packetTypeNibble h.packetType) = .error .invalidField)

/-- R138: PKT_ENCODE is injective on its successful inputs, and its successful outputs are exactly the
canonical words of R72. Rests on D5. -/
def Obligations.PacketEncodeIsInjectiveOntoCanonicalWords : Prop :=
  (∀ (id id' : BitVec 16) (t t' : Nibble) (w : Word),
    encodePacketHeader Config.decided id t = .ok w → encodePacketHeader Config.decided id' t' = .ok w →
    id = id' ∧ t = t') ∧
  (∀ w : Word, (∃ id t, encodePacketHeader Config.decided id t = .ok w) ↔
    w &&& 0xFF0000F0#32 = 0x200000F0 ∧ (w.extractLsb' 0 4).toNat ≤ 2)

/-- R156: encode then decode, every field value; strict mode asks for known codes. -/
def Obligations.TransactionDecodeOfEncode : Prop :=
  ∀ (c : Config) (id : BitVec 12) (n : BitVec 8) (y i : Nibble) (strict : Bool),
    let known := typeIdIsKnown c y = true ∧ infoCodeIsKnown i = true
    (strict = false ∨ known →
      ∃ h, decodeTransactionHeader c (transactionWord id n y i) strict = .ok h ∧
        h.transactionId = id ∧ h.wordCount = n ∧ typeIdNibble c h.typeId = y ∧
        infoCodeNibble h.infoCode = i ∧ h.protocolVersion = 2) ∧
    (strict = true ∧ ¬known →
      decodeTransactionHeader c (transactionWord id n y i) strict = .error .unknownTransactionCode)

/-- R157: decode then encode is the word itself, in both modes; TXN_ENCODE is a bijection onto the words
of version 2. -/
def Obligations.TransactionEncodeOfDecode : Prop :=
  (∀ (c : Config) (w : Word) (strict : Bool) (h : TransactionHeader),
    decodeTransactionHeader c w strict = .ok h →
    transactionWord h.transactionId h.wordCount (typeIdNibble c h.typeId) (infoCodeNibble h.infoCode)
      = w) ∧
  (∀ (id id' : BitVec 12) (n n' : BitVec 8) (y y' i i' : Nibble),
    transactionWord id n y i = transactionWord id' n' y' i' → id = id' ∧ n = n' ∧ y = y' ∧ i = i') ∧
  (∀ w : Word, (∃ id n y i, transactionWord id n y i = w) ↔ w.extractLsb' 28 4 = 0x2)

/-- R72: how many packet header words each mode accepts. Rests on D5, D6, D7. -/
def Obligations.AcceptedPacketWordsCount : Prop :=
  Nat.card (Subtype fun w : Word => ∃ h, decodePacketHeader Config.decided w false = .ok h) = 2 ^ 27 ∧
  Nat.card (Subtype fun w : Word => ∃ h, decodePacketHeader Config.decided w true = .ok h) = 3 * 2 ^ 16

/-- R72: how many transaction header words each mode accepts. Rests on D10, D11. -/
def Obligations.AcceptedTransactionWordsCount : Prop :=
  Nat.card (Subtype fun w : Word => ∃ h, decodeTransactionHeader Config.decided w false = .ok h) = 2 ^ 28 ∧
  Nat.card (Subtype fun w : Word => ∃ h, decodeTransactionHeader Config.decided w true = .ok h)
    = 14 * 2 ^ 20

/-- D14: a constructor answers by the VALUE it is offered, whatever the width of the host value. -/
def Obligations.ConstructorsDependOnTheHostValueOnly : Prop :=
  ∀ (h k : Nat) (a b : BitVec h) (d e : BitVec h) (a' b' d' e' : BitVec k) (t : Nibble),
    a.toNat = a'.toNat → b.toNat = b'.toNat → d.toNat = d'.toNat → e.toNat = e'.toNat →
    makePacket a t = makePacket a' t ∧ makeTransaction a b d e = makeTransaction a' b' d' e'

/-! Byte order and the composites. -/

/-- R46: BSWAP32 exchanges bytes 0 and 3 and bytes 1 and 2, and is its own inverse. -/
def Obligations.ByteSwapExchangesBytesAndIsItsOwnInverse : Prop :=
  ∀ w : Word,
    (bswap32 w).extractLsb' 0 8 = w.extractLsb' 24 8 ∧ (bswap32 w).extractLsb' 24 8 = w.extractLsb' 0 8 ∧
    (bswap32 w).extractLsb' 8 8 = w.extractLsb' 16 8 ∧ (bswap32 w).extractLsb' 16 8 = w.extractLsb' 8 8 ∧
    bswap32 (bswap32 w) = w

/-- R47: a swapped canonical packet header is reported as swapped, in both modes. -/
def Obligations.SwappedCanonicalHeaderIsAByteOrderMismatch : Prop :=
  ∀ (c : Config) (w : Word) (strict : Bool),
    w.extractLsb' 24 8 = 0x20 → w.extractLsb' 4 4 = 0xF → (w.extractLsb' 0 4).toNat ≤ 2 →
    (bswap32 w).extractLsb' 28 4 = 0xF ∧ (bswap32 w).extractLsb' 24 4 = w.extractLsb' 0 4 ∧
    (bswap32 w).extractLsb' 0 8 = 0x20 ∧
    decodePacketHeader c (bswap32 w) strict = .error .byteOrderMismatch

/-- R48: a swapped transaction header is never reported as swapped, in either mode: it is a version error,
or the lenient mode decodes it. -/
def Obligations.SwappedTransactionIsNotDetected : Prop :=
  ∀ (c : Config) (w : Word),
    (w.extractLsb' 4 4 ≠ 0x2 →
      ∀ strict, decodeTransactionHeader c (bswap32 w) strict = .error .protocolVersionMismatch) ∧
    (w.extractLsb' 4 4 = 0x2 → ∃ h, decodeTransactionHeader c (bswap32 w) false = .ok h) ∧
    (∀ strict, decodeTransactionHeader c (bswap32 w) strict ≠ .error .byteOrderMismatch)

/-- R75, R219: PKT_DECODE_RETRY decodes an encoded header in either byte order and says which it was, and
retries after no other error. -/
def Obligations.RetryRecoversEitherByteOrder : Prop :=
  (∀ (id : BitVec 16) (t : Nibble) (strict : Bool) (w : Word),
    encodePacketHeader Config.decided id t = .ok w →
    pktDecodeRetry Config.decided w strict
      = { result := .ok ⟨2, id, 0xF, packetTypeOfNibble t⟩, swapped := false } ∧
    pktDecodeRetry Config.decided (bswap32 w) strict
      = { result := .ok ⟨2, id, 0xF, packetTypeOfNibble t⟩, swapped := true }) ∧
  (∀ (c : Config) (w : Word) (strict : Bool),
    (decodePacketHeader c w strict ≠ .error .byteOrderMismatch →
      pktDecodeRetry c w strict = { result := decodePacketHeader c w strict, swapped := false }) ∧
    (decodePacketHeader c w strict = .error .byteOrderMismatch →
      pktDecodeRetry c w strict = { result := decodePacketHeader c (bswap32 w) strict, swapped := true }))

/-- R75 with R106, R107, R135, R155: what the encoders of unconstrained values answer, and that decoding
the built words gives the values back (the source's P-c and P-d). -/
def Obligations.BuildersAnswerOrRejectAndRoundTrip : Prop :=
  (∀ (id : HostValue) (t : Nibble),
    (0xFFFF < id.toNat ∨ 2 < t.toNat → buildPkt Config.decided id t = .error .invalidField) ∧
    (id.toNat ≤ 0xFFFF → t.toNat ≤ 2 → ∃ w h, buildPkt Config.decided id t = .ok w ∧
      decodePacketHeader Config.decided w true = .ok h ∧ h.packetId.toNat = id.toNat ∧
      packetTypeNibble h.packetType = t)) ∧
  (∀ id n y i : HostValue,
    (0xFFF < id.toNat ∨ 0xFF < n.toNat ∨ 0xF < y.toNat ∨ 0xF < i.toNat →
      buildTxn id n y i = .error .invalidField) ∧
    (id.toNat ≤ 0xFFF → n.toNat ≤ 0xFF → y.toNat ≤ 0xF → i.toNat ≤ 0xF →
      ∃ w h, buildTxn id n y i = .ok w ∧ decodeTransactionHeader Config.decided w false = .ok h ∧
        h.transactionId.toNat = id.toNat ∧ h.wordCount.toNat = n.toNat ∧
        (typeIdNibble Config.decided h.typeId).toNat = y.toNat ∧
        (infoCodeNibble h.infoCode).toNat = i.toNat))

/-! The parameters of R9 at every admissible value. -/

/-- Wherever the packet ID stands (D5), a packet header word carries its fields, its packet ID and its seven
reserved bits apart, and every word with the version bit and the canonical qualifier is such a word. -/
def Obligations.PacketWordsCarryTheirFieldsAtEveryPlace : Prop :=
  ∀ c : Config, c.wf = true →
    (∀ (t : Nibble) (r : BitVec 7) (p : BitVec 16),
      (pktRowWord c t r p).extractLsb' 0 4 = t ∧ (pktRowWord c t r p).extractLsb' 4 4 = 0xF ∧
      (pktRowWord c t r p).extractLsb' c.pidLsb 16 = p ∧ (pktRowWord c t r p).getLsbD 29 = true ∧
      reservedBits c (pktRowWord c t r p) = r ∧
      (pktRowWord c t r p &&& c.pktReservedMask = 0 ↔ r = 0)) ∧
    (∀ w : Word, w.getLsbD 29 = true → w.extractLsb' 4 4 = 0xF →
      pktRowWord c (w.extractLsb' 0 4) (reservedBits c w) (w.extractLsb' c.pidLsb 16) = w)

/-- D9 "`ok == (err == 0)`", whatever the codes: on every block and constructor, for every input. -/
def Obligations.OkIsNoErrorForEveryCodes : Prop :=
  ∀ c : Config, c.wf = true →
    (∀ i, (pktDecOut c i).ok = true ↔ (pktDecOut c i).err = 0) ∧
    (∀ i, (pktEncOut c i).ok = true ↔ (pktEncOut c i).err = 0) ∧
    (∀ i, (txnDecOut c i).ok = true ↔ (txnDecOut c i).err = 0) ∧
    (∀ i, (txnEncOut i).ok = true ↔ (txnEncOut i).err = 0) ∧
    (∀ i, (mkPktOut c i).ok = true ↔ (mkPktOut c i).err = 0) ∧
    (∀ i, (mkTxnOut c i).ok = true ↔ (mkTxnOut c i).err = 0)
end

