-- ==== Sys2Proof/Laws/Flags.lean ====
section
/-! SUPPORT. The enumerations and the known-code flags, each said once. -/

namespace Sys2Proof.Machine

/-- A raw nibble survives its tag: nothing is normalised (30_encoding.md R66). -/
@[simp] theorem packetTypeNibble_ofNibble (x : Nibble) : packetTypeNibble (packetTypeOfNibble x) = x := by
  revert x; decide

@[simp] theorem infoCodeNibble_ofNibble (x : Nibble) : infoCodeNibble (infoCodeOfNibble x) = x := by
  revert x; decide

@[simp] theorem typeIdNibble_ofNibble (c : Config) (x : Nibble) :
    typeIdNibble c (typeIdOfNibble c x) = x := by
  unfold typeIdOfNibble
  split
  · simp_all [typeIdNibble]
  · split <;> simp_all [typeIdNibble]

theorem packetTypeIsKnown_iff (t : Nibble) : packetTypeIsKnown t = true ↔ t.toNat ≤ 2 := by
  simp [packetTypeIsKnown]

theorem typeIdIsKnown_iff (c : Config) (y : Nibble) :
    typeIdIsKnown c y = true ↔ y = c.typeRead ∨ y = c.typeWrite := by
  simp [typeIdIsKnown]

/-- The known set of 30_encoding.md R68, member by member. -/
theorem infoCodeIsKnown_iff (x : Nibble) :
    infoCodeIsKnown x = true ↔
      x = 0x0 ∨ x = 0x1 ∨ x = 0x4 ∨ x = 0x5 ∨ x = 0x6 ∨ x = 0x7 ∨ x = 0xF := by
  revert x; decide

end Sys2Proof.Machine
end

