-- ==== Sys2Proof/Laws/Operands.lean ====
section
/-! SUPPORT. What the field operations do, in bit slices: a masked and shifted field is a slice of the
word, and an assembled word is the pattern of its format (30_encoding.md R60, R61, R63, R65). -/

namespace Sys2Proof.Machine

theorem byteOrderQualifierOf_eq (w : Word) : byteOrderQualifierOf w = w.extractLsb' 4 4 := by
  ext i hi
  interval_cases i <;> simp [byteOrderQualifierOf, takeField]

theorem packetTypeOf_eq (w : Word) : packetTypeOf w = w.extractLsb' 0 4 := by
  ext i hi
  interval_cases i <;> simp [packetTypeOf, takeField]

theorem txnVersionOf_eq (w : Word) : txnVersionOf w = w.extractLsb' 28 4 := by
  ext i hi
  interval_cases i <;> simp [txnVersionOf, takeField]

theorem transactionIdOf_eq (w : Word) : transactionIdOf w = w.extractLsb' 16 12 := by
  ext i hi
  interval_cases i <;> simp [transactionIdOf, takeField]

theorem wordCountOf_eq (w : Word) : wordCountOf w = w.extractLsb' 8 8 := by
  ext i hi
  interval_cases i <;> simp [wordCountOf, takeField]

theorem typeIdOf_eq (w : Word) : typeIdOf w = w.extractLsb' 4 4 := by
  ext i hi
  interval_cases i <;> simp [typeIdOf, takeField]

theorem infoCodeOf_eq (w : Word) : infoCodeOf w = w.extractLsb' 0 4 := by
  ext i hi
  interval_cases i <;> simp [infoCodeOf, takeField]

/-- PID_LSB is one of its five admissible values (decision D5). -/
theorem pidLsb_cases {c : Config} (h : c.wf = true) :
    c.pidLsb = 8 ∨ c.pidLsb = 9 ∨ c.pidLsb = 10 ∨ c.pidLsb = 11 ∨ c.pidLsb = 12 := by
  simp only [Config.wf, Bool.and_eq_true, decide_eq_true_eq] at h
  omega

theorem decided_wf : Config.decided.wf = true := by decide

@[simp] theorem decided_reservedMask : Config.decided.pktReservedMask = 0xDF000000#32 := by decide

theorem packetIdOf_eq {c : Config} (h : c.wf = true) (w : Word) :
    packetIdOf c w = w.extractLsb' c.pidLsb 16 := by
  rcases pidLsb_cases h with h | h | h | h | h <;>
    (ext i hi; interval_cases i <;> simp [packetIdOf, takeField, Config.pktIdMask, h])

/-- The 4-bit version is 2 exactly when bit 29 is set, else 0 (30_encoding.md R64). -/
theorem pktVersionOf_eq (w : Word) : pktVersionOf w = if w.getLsbD 29 then 2 else 0 := by
  ext i hi
  cases h : w.getLsbD 29 <;> interval_cases i <;> simp [pktVersionOf] <;> simpa using h

/-- Bit by bit, "0010iiiiiiiiiiiiwwwwwwwwyyyycccc" (30_encoding.md R61). -/
theorem txnRowWord_getLsbD (id : BitVec 12) (n : BitVec 8) (y c : Nibble) (k : Nat) :
    (txnRowWord id n y c).getLsbD k =
      if k < 4 then c.getLsbD k else if k < 8 then y.getLsbD (k - 4)
      else if k < 16 then n.getLsbD (k - 8) else if k < 28 then id.getLsbD (k - 16)
      else (0x2#4).getLsbD (k - 28) := by
  unfold txnRowWord
  change BitVec.getLsbD (w := 4 + 12 + 8 + 4 + 4) (0x2#4 ++ id ++ n ++ y ++ c) k = _
  simp only [BitVec.getLsbD_append, Nat.sub_sub]
  split_ifs <;> first | rfl | (exfalso; omega)

/-- Bit by bit, the twenty bits between bit 28 and the qualifier: the packet ID from PID_LSB up, the four
reserved bits around it (decision D5). -/
theorem idRegion_getLsbD {c : Config} (h : c.wf = true) (r : BitVec 4) (p : BitVec 16) (k : Nat)
    (hk : k < 20) :
    (idRegion c r p).getLsbD k =
      if 8 + k < c.pidLsb then r.getLsbD k
      else if 8 + k < c.pidLsb + 16 then p.getLsbD (8 + k - c.pidLsb) else r.getLsbD (k - 16) := by
  rcases pidLsb_cases h with h | h | h | h | h <;>
    simp only [idRegion, Config.reservedBelow, h] <;> interval_cases k <;> simp

/-- The four reserved bits come out as they went in. -/
theorem idRegionReserved_idRegion {c : Config} (h : c.wf = true) (r : BitVec 4) (p : BitVec 16) :
    idRegionReserved c (idRegion c r p) = r := by
  have hb := fun k (hk : k < 20) => idRegion_getLsbD h r p k hk
  apply BitVec.eq_of_getLsbD_eq
  intro i hi
  rcases pidLsb_cases h with h | h | h | h | h <;>
    simp only [h] at hb <;>
    simp only [idRegionReserved, Config.reservedBelow, h, BitVec.getLsbD_or, BitVec.getLsbD_and,
      BitVec.getLsbD_not, BitVec.getLsbD_shiftLeft, BitVec.getLsbD_setWidth, BitVec.getLsbD_ushiftRight] <;>
    interval_cases i <;> simp only [hb, Nat.reduceAdd, Nat.reduceSub, Nat.reduceLT] <;> simp

/-- Bit by bit, "rr1rrrrrpppppppppppppppp1111tttt" with the packet ID at its place (30_encoding.md R60). -/
theorem pktRowWord_getLsbD (c : Config) (t : Nibble) (r : BitVec 7) (p : BitVec 16) (k : Nat) :
    (pktRowWord c t r p).getLsbD k =
      if k < 4 then t.getLsbD k else if k < 8 then (0xF#4).getLsbD (k - 4)
      else if k < 28 then (idRegion c (r.extractLsb' 0 4) p).getLsbD (k - 8)
      else if k < 29 then (r.extractLsb' 4 1).getLsbD (k - 28)
      else if k < 30 then (1#1).getLsbD (k - 29) else (r.extractLsb' 5 2).getLsbD (k - 30) := by
  unfold pktRowWord
  change BitVec.getLsbD (w := 2 + 1 + 1 + 20 + 4 + 4)
    (r.extractLsb' 5 2 ++ 1#1 ++ r.extractLsb' 4 1 ++ idRegion c (r.extractLsb' 0 4) p ++ 0xF#4 ++ t) k = _
  simp only [BitVec.getLsbD_append, Nat.sub_sub]
  split_ifs <;> first | rfl | (exfalso; omega)

/-- Bit by bit, "00100000pppppppppppppppp1111tttt" (30_encoding.md R60). -/
theorem canonicalWord_getLsbD (id : BitVec 16) (t : Nibble) (k : Nat) :
    (0x20#8 ++ id ++ 0xF#4 ++ t : Word).getLsbD k =
      if k < 4 then t.getLsbD k else if k < 8 then (0xF#4).getLsbD (k - 4)
      else if k < 24 then id.getLsbD (k - 8) else (0x20#8).getLsbD (k - 24) := by
  simp only [BitVec.getLsbD_append, Nat.sub_sub]
  split_ifs <;> first | rfl | (exfalso; omega)

/-- Bit by bit, the word PKT_ENCODE builds (30_encoding.md R65). -/
theorem packetWord_getLsbD {c : Config} (h : c.wf = true) (id : BitVec 16) (t : Nibble) (k : Nat)
    (hk : k < 32) :
    (packetWord c id t).getLsbD k =
      if k < 4 then t.getLsbD k else if k < 8 then true
      else if c.pidLsb ≤ k ∧ k < c.pidLsb + 16 then id.getLsbD (k - c.pidLsb) else k == 29 := by
  rcases pidLsb_cases h with h | h | h | h | h <;>
    simp only [packetWord, h] <;> interval_cases k <;> simp [putField]

/-- Without a reserved bit a packet header word is what PKT_ENCODE builds (30_encoding.md R65). -/
theorem pktRowWord_zero {c : Config} (h : c.wf = true) (t : Nibble) (p : BitVec 16) :
    pktRowWord c t 0 p = packetWord c p t := by
  have hp := pidLsb_cases h
  have ones : ∀ j < 4, (0xF#4).getLsbD j = true := by decide
  apply BitVec.eq_of_getLsbD_eq
  intro k hk
  rw [pktRowWord_getLsbD, packetWord_getLsbD h _ _ k hk]
  split_ifs with h4 h8 h28 hid h29 _ h30 _ <;> try rfl
  · exact ones _ (by omega)
  · rw [idRegion_getLsbD h _ _ _ (by omega), if_neg (by omega), if_pos (by omega),
      show 8 + (k - 8) - c.pidLsb = k - c.pidLsb by omega]
  · rw [idRegion_getLsbD h _ _ _ (by omega), show (k == 29) = false by simp; omega]
    split_ifs <;> first | simp | (exfalso; omega)
  all_goals first | (exfalso; omega) | (interval_cases k <;> simp)

/-- The fields of a pattern word of R61, cut out again. -/
theorem txnRowWord_slices (id : BitVec 12) (n : BitVec 8) (y c : Nibble) :
    (txnRowWord id n y c).extractLsb' 28 4 = 2 ∧ (txnRowWord id n y c).extractLsb' 16 12 = id ∧
      (txnRowWord id n y c).extractLsb' 8 8 = n ∧ (txnRowWord id n y c).extractLsb' 4 4 = y ∧
      (txnRowWord id n y c).extractLsb' 0 4 = c := by
  refine ⟨?_, ?_, ?_, ?_, ?_⟩ <;>
    (ext i hi; rw [BitVec.getElem_extractLsb', txnRowWord_getLsbD]; interval_cases i <;> simp)

/-- The fields of a pattern word of R60, cut out again. -/
theorem pktRowWord_slices {c : Config} (h : c.wf = true) (t : Nibble) (r : BitVec 7) (p : BitVec 16) :
    (pktRowWord c t r p).extractLsb' 0 4 = t ∧ (pktRowWord c t r p).extractLsb' 4 4 = 0xF ∧
      (pktRowWord c t r p).extractLsb' c.pidLsb 16 = p ∧ (pktRowWord c t r p).getLsbD 29 = true := by
  have hp := pidLsb_cases h
  refine ⟨?_, ?_, ?_, by rw [pktRowWord_getLsbD]; simp⟩
  · ext i hi; rw [BitVec.getElem_extractLsb', pktRowWord_getLsbD]; interval_cases i <;> simp
  · ext i hi; rw [BitVec.getElem_extractLsb', pktRowWord_getLsbD]; interval_cases i <;> simp
  · ext i hi
    rw [BitVec.getElem_extractLsb', pktRowWord_getLsbD, if_neg (by omega), if_neg (by omega),
      if_pos (by omega), idRegion_getLsbD h _ _ _ (by omega), if_neg (by omega), if_pos (by omega),
      show 8 + (c.pidLsb + i - 8) - c.pidLsb = i by omega, BitVec.getLsbD_eq_getElem]

/-- The reserved bits of a pattern word of R60, cut out again. -/
theorem reservedBits_pktRowWord {c : Config} (h : c.wf = true) (t : Nibble) (r : BitVec 7)
    (p : BitVec 16) : reservedBits c (pktRowWord c t r p) = r := by
  have region : (pktRowWord c t r p).extractLsb' 8 20 = idRegion c (r.extractLsb' 0 4) p := by
    ext i hi
    rw [BitVec.getElem_extractLsb', pktRowWord_getLsbD, if_neg (by omega), if_neg (by omega),
      if_pos (by omega), show 8 + i - 8 = i by omega, BitVec.getLsbD_eq_getElem]
  unfold reservedBits
  rw [region, idRegionReserved_idRegion h]
  apply BitVec.eq_of_getLsbD_eq
  intro k hk
  simp only [BitVec.getLsbD_append, BitVec.getLsbD_extractLsb', pktRowWord_getLsbD]
  interval_cases k <;> simp

/-- The fields of a canonical word, cut out again. -/
theorem canonicalWord_slices (id : BitVec 16) (t : Nibble) :
    (0x20#8 ++ id ++ 0xF#4 ++ t : Word).extractLsb' 8 16 = id ∧
      (0x20#8 ++ id ++ 0xF#4 ++ t : Word).extractLsb' 0 4 = t := by
  constructor <;>
    (ext i hi; rw [BitVec.getElem_extractLsb', canonicalWord_getLsbD]; interval_cases i <;> simp)

theorem transactionWord_eq (id : BitVec 12) (n : BitVec 8) (y c : Nibble) :
    transactionWord id n y c = txnRowWord id n y c := by
  ext i hi
  rw [← BitVec.getLsbD_eq_getElem (x := txnRowWord id n y c), txnRowWord_getLsbD]
  interval_cases i <;> simp [transactionWord, putField]

theorem packetWord_decided_eq (id : BitVec 16) (t : Nibble) :
    packetWord Config.decided id t = 0x20#8 ++ id ++ 0xF#4 ++ t := by
  ext i hi
  rw [← BitVec.getLsbD_eq_getElem (x := (0x20#8 ++ id ++ 0xF#4 ++ t : Word)), canonicalWord_getLsbD]
  interval_cases i <;> simp [packetWord, putField]

theorem exceeds_iff {h : Nat} (v : BitVec h) (n : Nat) : exceeds v n = true ↔ 2 ^ n - 1 < v.toNat := by
  simp [exceeds]

end Sys2Proof.Machine
end

