-- ==== Sys2Proof/Laws/Codec.lean ====
section
/-! SUPPORT. The word checks and the decoders, each clause once, over bit slices (40_header_validator.md
R100, R102). -/

namespace Sys2Proof.Machine

/-- R100 over bit slices. -/
theorem checkPacketWord_eq (c : Config) (w : Word) (strict : Bool) :
    checkPacketWord c w strict =
      if w.getLsbD 29 = false then some .protocolVersionMismatch
      else if w.extractLsb' 4 4 ≠ 0xF then some .byteOrderMismatch
      else if strict = true ∧ 2 < (w.extractLsb' 0 4).toNat then some .unknownPacketType
      else if strict = true ∧ w &&& c.pktReservedMask ≠ 0 then some .reservedBitSet
      else none := by
  simp only [checkPacketWord, pktVersionBit, byteOrderQualifierOf_eq, packetTypeOf_eq, packetTypeIsKnown,
    reservedBitIsSet, Bool.not_eq_eq_eq_not, Bool.not_true, bne_iff_ne, Bool.and_eq_true,
    decide_eq_false_iff_not, not_le, ne_eq]

/-- R102 over bit slices. -/
theorem checkTransactionWord_eq (c : Config) (w : Word) (strict : Bool) :
    checkTransactionWord c w strict =
      if w.extractLsb' 28 4 ≠ 0x2 then some .protocolVersionMismatch
      else if strict = true ∧ typeIdIsKnown c (w.extractLsb' 4 4) = false then some .unknownTransactionCode
      else if strict = true ∧ infoCodeIsKnown (w.extractLsb' 0 4) = false then some .unknownTransactionCode
      else none := by
  simp only [checkTransactionWord, txnVersionOf_eq, typeIdOf_eq, infoCodeOf_eq, bne_iff_ne,
    Bool.and_eq_true, Bool.not_eq_eq_eq_not, Bool.not_true, ne_eq]

/-- A word that passes the packet check has the version bit and the canonical qualifier. -/
theorem checkPacketWord_none {c : Config} {w : Word} {strict : Bool} (h : checkPacketWord c w strict = none) :
    w.getLsbD 29 = true ∧ w.extractLsb' 4 4 = 0xF ∧
      (strict = true → (w.extractLsb' 0 4).toNat ≤ 2 ∧ w &&& c.pktReservedMask = 0) := by
  rw [checkPacketWord_eq] at h
  split at h <;> try contradiction
  split at h <;> try contradiction
  split at h <;> try contradiction
  split at h <;> try contradiction
  rename_i hv hb ht hr
  exact ⟨by simpa using hv, by simpa using hb,
    fun hs => ⟨by simpa [hs] using ht, by simpa [hs] using hr⟩⟩

/-- A word that passes the transaction check has version 2. -/
theorem checkTransactionWord_none {c : Config} {w : Word} {strict : Bool}
    (h : checkTransactionWord c w strict = none) :
    w.extractLsb' 28 4 = 0x2 ∧
      (strict = true → typeIdIsKnown c (w.extractLsb' 4 4) = true ∧
        infoCodeIsKnown (w.extractLsb' 0 4) = true) := by
  rw [checkTransactionWord_eq] at h
  split at h <;> try contradiction
  split at h <;> try contradiction
  split at h <;> try contradiction
  exact ⟨by simp_all, fun hs => by simp_all⟩

/-- Everything PKT_DECODE can answer (R130). -/
theorem decodePacketHeader_cases (c : Config) (w : Word) (strict : Bool) :
    (∃ e, checkPacketWord c w strict = some e ∧ decodePacketHeader c w strict = .error e) ∨
      (checkPacketWord c w strict = none ∧ decodePacketHeader c w strict = .ok
        { protocolVersion := 2, packetId := packetIdOf c w, byteOrderQualifier := 0xF
          packetType := packetTypeOfNibble (w.extractLsb' 0 4) }) := by
  unfold decodePacketHeader
  cases h : checkPacketWord c w strict with
  | some e => exact .inl ⟨e, rfl, rfl⟩
  | none =>
    obtain ⟨hv, hb, -⟩ := checkPacketWord_none h
    exact .inr ⟨rfl, by simp only [pktVersionOf_eq, hv, if_true, byteOrderQualifierOf_eq, hb, packetTypeOf_eq]⟩

/-- Everything TXN_DECODE can answer (R150). -/
theorem decodeTransactionHeader_cases (c : Config) (w : Word) (strict : Bool) :
    (∃ e, checkTransactionWord c w strict = some e ∧ decodeTransactionHeader c w strict = .error e) ∨
      (checkTransactionWord c w strict = none ∧ decodeTransactionHeader c w strict = .ok
        { protocolVersion := 2, transactionId := w.extractLsb' 16 12, wordCount := w.extractLsb' 8 8
          typeId := typeIdOfNibble c (w.extractLsb' 4 4)
          infoCode := infoCodeOfNibble (w.extractLsb' 0 4) }) := by
  unfold decodeTransactionHeader
  cases h : checkTransactionWord c w strict with
  | some e => exact .inl ⟨e, rfl, rfl⟩
  | none =>
    exact .inr ⟨rfl, by
      simp only [txnVersionOf_eq, (checkTransactionWord_none h).1, transactionIdOf_eq, wordCountOf_eq,
        typeIdOf_eq, infoCodeOf_eq]⟩

end Sys2Proof.Machine
end

