-- ==== Sys2Proof/Laws/Decode.lean ====
section
/-! SUPPORT. The decoder is its four checks and then the operands; the request of each shape of
instruction passes them. -/

namespace Sys2Proof

/-- Everything `decode` can answer with an instruction. -/
theorem decode_eq_ok {r : Request} {i : Instr} :
    decode r = .ok i ↔ r.wf = true ∧ readOperands Config.decided r.sel r.strict r.bits = i := by
  unfold decode Request.wf
  cases r.wholeOperand <;> cases r.noBitAbove <;> cases r.strictIsAPort <;> cases r.fixedBitsHold <;> simp

/-- A word comes out of its request as it went in. -/
@[simp] theorem low_word_setWidth (w : Word) :
    (w.setWidth Config.OPERANDW).extractLsb' 0 32 = w := by
  apply BitVec.eq_of_getLsbD_eq
  intro k hk
  simp only [BitVec.getLsbD_extractLsb', BitVec.getLsbD_setWidth, Nat.zero_add, hk, decide_true,
    Bool.true_and, decide_eq_true (show k < Config.OPERANDW from Nat.lt_trans hk (by decide))]

/-- A slice of a word comes out of its request as it went in. -/
theorem low_slice_setWidth (w : Word) {a n : Nat} (h : a + n ≤ 32) :
    (w.setWidth Config.OPERANDW).extractLsb' a n = w.extractLsb' a n := by
  apply BitVec.eq_of_getLsbD_eq
  intro k hk
  simp only [BitVec.getLsbD_extractLsb', BitVec.getLsbD_setWidth, hk, decide_true, Bool.true_and,
    decide_eq_true (show a + k < Config.OPERANDW from Nat.lt_of_lt_of_le (by omega : a + k < 32) (by decide))]

theorem nibbleRequest_wf (sel : Select) (x : Nibble) (hw : sel.width = 4)
    (hm : sel.fixedMask Config.decided = 0) (hb : sel.fixedBits = 0) :
    (nibbleRequest sel x).wf = true := by
  have : x.setWidth Config.OPERANDW >>> 4 = 0 := by
    ext k hk; simp
  simp [Request.wf, Request.wholeOperand, Request.noBitAbove, Request.strictIsAPort,
    Request.fixedBitsHold, nibbleRequest, hw, hm, hb, this]

/-- A word's request is well formed when the word has the fixed bits of its port's pattern. -/
theorem wordRequest_wf (sel : Select) (strict : Bool) (w : Word) (hw : sel.width = 32)
    (hs : strict = false ∨ sel.hasStrict = true)
    (hf : w &&& sel.fixedMask Config.decided = sel.fixedBits) : (wordRequest sel strict w).wf = true := by
  have : w.setWidth Config.OPERANDW >>> 32 = 0 := by
    ext k hk; simp
  rcases hs with hs | hs <;>
    simp [Request.wf, Request.wholeOperand, Request.noBitAbove, Request.strictIsAPort,
      Request.fixedBitsHold, wordRequest, hw, hf, hs, this]

theorem pktRowWord_fixed (t : Nibble) (r : BitVec 7) (p : BitVec 16) :
    pktRowWord Config.decided t r p &&& Select.pktRow.fixedMask Config.decided
      = Select.pktRow.fixedBits := by
  apply BitVec.eq_of_getLsbD_eq
  intro k hk
  rw [BitVec.getLsbD_and, Machine.pktRowWord_getLsbD]
  interval_cases k <;> simp [Select.fixedMask, Select.fixedBits]

theorem txnRowWord_fixed (id : BitVec 12) (n : BitVec 8) (y c : Nibble) :
    txnRowWord id n y c &&& 0xF0000000 = 0x20000000 := by
  apply BitVec.eq_of_getLsbD_eq
  intro k hk
  rw [BitVec.getLsbD_and, Machine.txnRowWord_getLsbD]
  interval_cases k <;> simp

theorem pktEncodeWord_fixed (id : BitVec 16) (t : Nibble) :
    pktRowWord Config.decided t 0 id &&& Select.pktEncode.fixedMask Config.decided
      = Select.pktEncode.fixedBits := by
  apply BitVec.eq_of_getLsbD_eq
  intro k hk
  rw [BitVec.getLsbD_and, Machine.pktRowWord_zero Machine.decided_wf,
    Machine.packetWord_getLsbD Machine.decided_wf _ _ _ hk]
  interval_cases k <;> simp [Select.fixedMask, Select.fixedBits, Config.pktIdMask]

end Sys2Proof
end

