-- ==== Sys2Proof/Laws/State.lean ====
section
/-! SUPPORT. One lemma per field per update of State, so that no proof unfolds a record update. -/

namespace Sys2Proof.Machine.State

section
variable (s : State) (x : Port WordIn (Result PktDecFields))

@[simp] theorem setPktDec_pktDec : (s.setPktDec x).pktDec = x := rfl
@[simp] theorem setPktDec_pktEnc : (s.setPktDec x).pktEnc = s.pktEnc := rfl
@[simp] theorem setPktDec_txnDec : (s.setPktDec x).txnDec = s.txnDec := rfl
@[simp] theorem setPktDec_txnEnc : (s.setPktDec x).txnEnc = s.txnEnc := rfl
@[simp] theorem setPktDec_valPkt : (s.setPktDec x).valPkt = s.valPkt := rfl
@[simp] theorem setPktDec_valTxn : (s.setPktDec x).valTxn = s.valTxn := rfl
@[simp] theorem setPktDec_mkPkt : (s.setPktDec x).mkPkt = s.mkPkt := rfl
@[simp] theorem setPktDec_mkTxn : (s.setPktDec x).mkTxn = s.mkTxn := rfl
@[simp] theorem setPktDec_ptype : (s.setPktDec x).ptype = s.ptype := rfl
@[simp] theorem setPktDec_tid : (s.setPktDec x).tid = s.tid := rfl
@[simp] theorem setPktDec_info : (s.setPktDec x).info = s.info := rfl
@[simp] theorem setPktDec_requests : (s.setPktDec x).requests = s.requests := rfl
@[simp] theorem setPktDec_twice (y : Port WordIn (Result PktDecFields)) : (s.setPktDec y).setPktDec x = s.setPktDec x := rfl

end

section
variable (s : State) (x : Port PktEncIn (Result Word))

@[simp] theorem setPktEnc_pktDec : (s.setPktEnc x).pktDec = s.pktDec := rfl
@[simp] theorem setPktEnc_pktEnc : (s.setPktEnc x).pktEnc = x := rfl
@[simp] theorem setPktEnc_txnDec : (s.setPktEnc x).txnDec = s.txnDec := rfl
@[simp] theorem setPktEnc_txnEnc : (s.setPktEnc x).txnEnc = s.txnEnc := rfl
@[simp] theorem setPktEnc_valPkt : (s.setPktEnc x).valPkt = s.valPkt := rfl
@[simp] theorem setPktEnc_valTxn : (s.setPktEnc x).valTxn = s.valTxn := rfl
@[simp] theorem setPktEnc_mkPkt : (s.setPktEnc x).mkPkt = s.mkPkt := rfl
@[simp] theorem setPktEnc_mkTxn : (s.setPktEnc x).mkTxn = s.mkTxn := rfl
@[simp] theorem setPktEnc_ptype : (s.setPktEnc x).ptype = s.ptype := rfl
@[simp] theorem setPktEnc_tid : (s.setPktEnc x).tid = s.tid := rfl
@[simp] theorem setPktEnc_info : (s.setPktEnc x).info = s.info := rfl
@[simp] theorem setPktEnc_requests : (s.setPktEnc x).requests = s.requests := rfl
@[simp] theorem setPktEnc_twice (y : Port PktEncIn (Result Word)) : (s.setPktEnc y).setPktEnc x = s.setPktEnc x := rfl

end

section
variable (s : State) (x : Port WordIn (Result TxnDecFields))

@[simp] theorem setTxnDec_pktDec : (s.setTxnDec x).pktDec = s.pktDec := rfl
@[simp] theorem setTxnDec_pktEnc : (s.setTxnDec x).pktEnc = s.pktEnc := rfl
@[simp] theorem setTxnDec_txnDec : (s.setTxnDec x).txnDec = x := rfl
@[simp] theorem setTxnDec_txnEnc : (s.setTxnDec x).txnEnc = s.txnEnc := rfl
@[simp] theorem setTxnDec_valPkt : (s.setTxnDec x).valPkt = s.valPkt := rfl
@[simp] theorem setTxnDec_valTxn : (s.setTxnDec x).valTxn = s.valTxn := rfl
@[simp] theorem setTxnDec_mkPkt : (s.setTxnDec x).mkPkt = s.mkPkt := rfl
@[simp] theorem setTxnDec_mkTxn : (s.setTxnDec x).mkTxn = s.mkTxn := rfl
@[simp] theorem setTxnDec_ptype : (s.setTxnDec x).ptype = s.ptype := rfl
@[simp] theorem setTxnDec_tid : (s.setTxnDec x).tid = s.tid := rfl
@[simp] theorem setTxnDec_info : (s.setTxnDec x).info = s.info := rfl
@[simp] theorem setTxnDec_requests : (s.setTxnDec x).requests = s.requests := rfl
@[simp] theorem setTxnDec_twice (y : Port WordIn (Result TxnDecFields)) : (s.setTxnDec y).setTxnDec x = s.setTxnDec x := rfl

end

section
variable (s : State) (x : Port TxnValues (Result Word))

@[simp] theorem setTxnEnc_pktDec : (s.setTxnEnc x).pktDec = s.pktDec := rfl
@[simp] theorem setTxnEnc_pktEnc : (s.setTxnEnc x).pktEnc = s.pktEnc := rfl
@[simp] theorem setTxnEnc_txnDec : (s.setTxnEnc x).txnDec = s.txnDec := rfl
@[simp] theorem setTxnEnc_txnEnc : (s.setTxnEnc x).txnEnc = x := rfl
@[simp] theorem setTxnEnc_valPkt : (s.setTxnEnc x).valPkt = s.valPkt := rfl
@[simp] theorem setTxnEnc_valTxn : (s.setTxnEnc x).valTxn = s.valTxn := rfl
@[simp] theorem setTxnEnc_mkPkt : (s.setTxnEnc x).mkPkt = s.mkPkt := rfl
@[simp] theorem setTxnEnc_mkTxn : (s.setTxnEnc x).mkTxn = s.mkTxn := rfl
@[simp] theorem setTxnEnc_ptype : (s.setTxnEnc x).ptype = s.ptype := rfl
@[simp] theorem setTxnEnc_tid : (s.setTxnEnc x).tid = s.tid := rfl
@[simp] theorem setTxnEnc_info : (s.setTxnEnc x).info = s.info := rfl
@[simp] theorem setTxnEnc_requests : (s.setTxnEnc x).requests = s.requests := rfl
@[simp] theorem setTxnEnc_twice (y : Port TxnValues (Result Word)) : (s.setTxnEnc y).setTxnEnc x = s.setTxnEnc x := rfl

end

section
variable (s : State) (x : Port WordIn (BitVec 3))

@[simp] theorem setValPkt_pktDec : (s.setValPkt x).pktDec = s.pktDec := rfl
@[simp] theorem setValPkt_pktEnc : (s.setValPkt x).pktEnc = s.pktEnc := rfl
@[simp] theorem setValPkt_txnDec : (s.setValPkt x).txnDec = s.txnDec := rfl
@[simp] theorem setValPkt_txnEnc : (s.setValPkt x).txnEnc = s.txnEnc := rfl
@[simp] theorem setValPkt_valPkt : (s.setValPkt x).valPkt = x := rfl
@[simp] theorem setValPkt_valTxn : (s.setValPkt x).valTxn = s.valTxn := rfl
@[simp] theorem setValPkt_mkPkt : (s.setValPkt x).mkPkt = s.mkPkt := rfl
@[simp] theorem setValPkt_mkTxn : (s.setValPkt x).mkTxn = s.mkTxn := rfl
@[simp] theorem setValPkt_ptype : (s.setValPkt x).ptype = s.ptype := rfl
@[simp] theorem setValPkt_tid : (s.setValPkt x).tid = s.tid := rfl
@[simp] theorem setValPkt_info : (s.setValPkt x).info = s.info := rfl
@[simp] theorem setValPkt_requests : (s.setValPkt x).requests = s.requests := rfl
@[simp] theorem setValPkt_twice (y : Port WordIn (BitVec 3)) : (s.setValPkt y).setValPkt x = s.setValPkt x := rfl

end

section
variable (s : State) (x : Port WordIn (BitVec 3))

@[simp] theorem setValTxn_pktDec : (s.setValTxn x).pktDec = s.pktDec := rfl
@[simp] theorem setValTxn_pktEnc : (s.setValTxn x).pktEnc = s.pktEnc := rfl
@[simp] theorem setValTxn_txnDec : (s.setValTxn x).txnDec = s.txnDec := rfl
@[simp] theorem setValTxn_txnEnc : (s.setValTxn x).txnEnc = s.txnEnc := rfl
@[simp] theorem setValTxn_valPkt : (s.setValTxn x).valPkt = s.valPkt := rfl
@[simp] theorem setValTxn_valTxn : (s.setValTxn x).valTxn = x := rfl
@[simp] theorem setValTxn_mkPkt : (s.setValTxn x).mkPkt = s.mkPkt := rfl
@[simp] theorem setValTxn_mkTxn : (s.setValTxn x).mkTxn = s.mkTxn := rfl
@[simp] theorem setValTxn_ptype : (s.setValTxn x).ptype = s.ptype := rfl
@[simp] theorem setValTxn_tid : (s.setValTxn x).tid = s.tid := rfl
@[simp] theorem setValTxn_info : (s.setValTxn x).info = s.info := rfl
@[simp] theorem setValTxn_requests : (s.setValTxn x).requests = s.requests := rfl
@[simp] theorem setValTxn_twice (y : Port WordIn (BitVec 3)) : (s.setValTxn y).setValTxn x = s.setValTxn x := rfl

end

section
variable (s : State) (x : Port MkPktIn (Result MkPktFields))

@[simp] theorem setMkPkt_pktDec : (s.setMkPkt x).pktDec = s.pktDec := rfl
@[simp] theorem setMkPkt_pktEnc : (s.setMkPkt x).pktEnc = s.pktEnc := rfl
@[simp] theorem setMkPkt_txnDec : (s.setMkPkt x).txnDec = s.txnDec := rfl
@[simp] theorem setMkPkt_txnEnc : (s.setMkPkt x).txnEnc = s.txnEnc := rfl
@[simp] theorem setMkPkt_valPkt : (s.setMkPkt x).valPkt = s.valPkt := rfl
@[simp] theorem setMkPkt_valTxn : (s.setMkPkt x).valTxn = s.valTxn := rfl
@[simp] theorem setMkPkt_mkPkt : (s.setMkPkt x).mkPkt = x := rfl
@[simp] theorem setMkPkt_mkTxn : (s.setMkPkt x).mkTxn = s.mkTxn := rfl
@[simp] theorem setMkPkt_ptype : (s.setMkPkt x).ptype = s.ptype := rfl
@[simp] theorem setMkPkt_tid : (s.setMkPkt x).tid = s.tid := rfl
@[simp] theorem setMkPkt_info : (s.setMkPkt x).info = s.info := rfl
@[simp] theorem setMkPkt_requests : (s.setMkPkt x).requests = s.requests := rfl
@[simp] theorem setMkPkt_twice (y : Port MkPktIn (Result MkPktFields)) : (s.setMkPkt y).setMkPkt x = s.setMkPkt x := rfl

end

section
variable (s : State) (x : Port MkTxnIn (Result TxnValues))

@[simp] theorem setMkTxn_pktDec : (s.setMkTxn x).pktDec = s.pktDec := rfl
@[simp] theorem setMkTxn_pktEnc : (s.setMkTxn x).pktEnc = s.pktEnc := rfl
@[simp] theorem setMkTxn_txnDec : (s.setMkTxn x).txnDec = s.txnDec := rfl
@[simp] theorem setMkTxn_txnEnc : (s.setMkTxn x).txnEnc = s.txnEnc := rfl
@[simp] theorem setMkTxn_valPkt : (s.setMkTxn x).valPkt = s.valPkt := rfl
@[simp] theorem setMkTxn_valTxn : (s.setMkTxn x).valTxn = s.valTxn := rfl
@[simp] theorem setMkTxn_mkPkt : (s.setMkTxn x).mkPkt = s.mkPkt := rfl
@[simp] theorem setMkTxn_mkTxn : (s.setMkTxn x).mkTxn = x := rfl
@[simp] theorem setMkTxn_ptype : (s.setMkTxn x).ptype = s.ptype := rfl
@[simp] theorem setMkTxn_tid : (s.setMkTxn x).tid = s.tid := rfl
@[simp] theorem setMkTxn_info : (s.setMkTxn x).info = s.info := rfl
@[simp] theorem setMkTxn_requests : (s.setMkTxn x).requests = s.requests := rfl
@[simp] theorem setMkTxn_twice (y : Port MkTxnIn (Result TxnValues)) : (s.setMkTxn y).setMkTxn x = s.setMkTxn x := rfl

end

section
variable (s : State) (x : Port Nibble Bool)

@[simp] theorem setPtype_pktDec : (s.setPtype x).pktDec = s.pktDec := rfl
@[simp] theorem setPtype_pktEnc : (s.setPtype x).pktEnc = s.pktEnc := rfl
@[simp] theorem setPtype_txnDec : (s.setPtype x).txnDec = s.txnDec := rfl
@[simp] theorem setPtype_txnEnc : (s.setPtype x).txnEnc = s.txnEnc := rfl
@[simp] theorem setPtype_valPkt : (s.setPtype x).valPkt = s.valPkt := rfl
@[simp] theorem setPtype_valTxn : (s.setPtype x).valTxn = s.valTxn := rfl
@[simp] theorem setPtype_mkPkt : (s.setPtype x).mkPkt = s.mkPkt := rfl
@[simp] theorem setPtype_mkTxn : (s.setPtype x).mkTxn = s.mkTxn := rfl
@[simp] theorem setPtype_ptype : (s.setPtype x).ptype = x := rfl
@[simp] theorem setPtype_tid : (s.setPtype x).tid = s.tid := rfl
@[simp] theorem setPtype_info : (s.setPtype x).info = s.info := rfl
@[simp] theorem setPtype_requests : (s.setPtype x).requests = s.requests := rfl
@[simp] theorem setPtype_twice (y : Port Nibble Bool) : (s.setPtype y).setPtype x = s.setPtype x := rfl

end

section
variable (s : State) (x : Port Nibble Bool)

@[simp] theorem setTid_pktDec : (s.setTid x).pktDec = s.pktDec := rfl
@[simp] theorem setTid_pktEnc : (s.setTid x).pktEnc = s.pktEnc := rfl
@[simp] theorem setTid_txnDec : (s.setTid x).txnDec = s.txnDec := rfl
@[simp] theorem setTid_txnEnc : (s.setTid x).txnEnc = s.txnEnc := rfl
@[simp] theorem setTid_valPkt : (s.setTid x).valPkt = s.valPkt := rfl
@[simp] theorem setTid_valTxn : (s.setTid x).valTxn = s.valTxn := rfl
@[simp] theorem setTid_mkPkt : (s.setTid x).mkPkt = s.mkPkt := rfl
@[simp] theorem setTid_mkTxn : (s.setTid x).mkTxn = s.mkTxn := rfl
@[simp] theorem setTid_ptype : (s.setTid x).ptype = s.ptype := rfl
@[simp] theorem setTid_tid : (s.setTid x).tid = x := rfl
@[simp] theorem setTid_info : (s.setTid x).info = s.info := rfl
@[simp] theorem setTid_requests : (s.setTid x).requests = s.requests := rfl
@[simp] theorem setTid_twice (y : Port Nibble Bool) : (s.setTid y).setTid x = s.setTid x := rfl

end

section
variable (s : State) (x : Port Nibble InfoOut)

@[simp] theorem setInfo_pktDec : (s.setInfo x).pktDec = s.pktDec := rfl
@[simp] theorem setInfo_pktEnc : (s.setInfo x).pktEnc = s.pktEnc := rfl
@[simp] theorem setInfo_txnDec : (s.setInfo x).txnDec = s.txnDec := rfl
@[simp] theorem setInfo_txnEnc : (s.setInfo x).txnEnc = s.txnEnc := rfl
@[simp] theorem setInfo_valPkt : (s.setInfo x).valPkt = s.valPkt := rfl
@[simp] theorem setInfo_valTxn : (s.setInfo x).valTxn = s.valTxn := rfl
@[simp] theorem setInfo_mkPkt : (s.setInfo x).mkPkt = s.mkPkt := rfl
@[simp] theorem setInfo_mkTxn : (s.setInfo x).mkTxn = s.mkTxn := rfl
@[simp] theorem setInfo_ptype : (s.setInfo x).ptype = s.ptype := rfl
@[simp] theorem setInfo_tid : (s.setInfo x).tid = s.tid := rfl
@[simp] theorem setInfo_info : (s.setInfo x).info = x := rfl
@[simp] theorem setInfo_requests : (s.setInfo x).requests = s.requests := rfl
@[simp] theorem setInfo_twice (y : Port Nibble InfoOut) : (s.setInfo y).setInfo x = s.setInfo x := rfl

end

section
variable (s : State) (x : List Request)

@[simp] theorem setRequests_pktDec : (s.setRequests x).pktDec = s.pktDec := rfl
@[simp] theorem setRequests_pktEnc : (s.setRequests x).pktEnc = s.pktEnc := rfl
@[simp] theorem setRequests_txnDec : (s.setRequests x).txnDec = s.txnDec := rfl
@[simp] theorem setRequests_txnEnc : (s.setRequests x).txnEnc = s.txnEnc := rfl
@[simp] theorem setRequests_valPkt : (s.setRequests x).valPkt = s.valPkt := rfl
@[simp] theorem setRequests_valTxn : (s.setRequests x).valTxn = s.valTxn := rfl
@[simp] theorem setRequests_mkPkt : (s.setRequests x).mkPkt = s.mkPkt := rfl
@[simp] theorem setRequests_mkTxn : (s.setRequests x).mkTxn = s.mkTxn := rfl
@[simp] theorem setRequests_ptype : (s.setRequests x).ptype = s.ptype := rfl
@[simp] theorem setRequests_tid : (s.setRequests x).tid = s.tid := rfl
@[simp] theorem setRequests_info : (s.setRequests x).info = s.info := rfl
@[simp] theorem setRequests_requests : (s.setRequests x).requests = x := rfl
@[simp] theorem setRequests_twice (y : List Request) : (s.setRequests y).setRequests x = s.setRequests x := rfl

end

end Sys2Proof.Machine.State
end

