-- ==== Sys2Proof/Laws/Exec.lean ====
section
/-! SUPPORT. What an evaluation can do, said once: it drives one group of ports with values that depend
on the instruction alone and are settled. Frames, purity and invariants follow from `exec_drives`. -/

namespace Sys2Proof.Machine

/-- New wires for one group of ports. -/
inductive Driven where
  | pktDec (p : Port WordIn (Result PktDecFields))
  | pktEnc (p : Port PktEncIn (Result Word))
  | txnDec (p : Port WordIn (Result TxnDecFields))
  | txnEnc (p : Port TxnValues (Result Word))
  | valPkt (p : Port WordIn (BitVec 3))
  | valTxn (p : Port WordIn (BitVec 3))
  | mkPkt (p : Port MkPktIn (Result MkPktFields))
  | mkTxn (p : Port MkTxnIn (Result TxnValues))
  | ptype (p : Port Nibble Bool)
  | tid (p : Port Nibble Bool)
  | info (p : Port Nibble InfoOut)

def Driven.group : Driven → Group
  | .pktDec _ => .pktDec
  | .pktEnc _ => .pktEnc
  | .txnDec _ => .txnDec
  | .txnEnc _ => .txnEnc
  | .valPkt _ => .valPkt
  | .valTxn _ => .valTxn
  | .mkPkt _ => .mkPkt
  | .mkTxn _ => .mkTxn
  | .ptype _ => .ptype
  | .tid _ => .tid
  | .info _ => .info

def Driven.apply (d : Driven) (s : State) : State :=
  match d with
  | .pktDec p => s.setPktDec p
  | .pktEnc p => s.setPktEnc p
  | .txnDec p => s.setTxnDec p
  | .txnEnc p => s.setTxnEnc p
  | .valPkt p => s.setValPkt p
  | .valTxn p => s.setValTxn p
  | .mkPkt p => s.setMkPkt p
  | .mkTxn p => s.setMkTxn p
  | .ptype p => s.setPtype p
  | .tid p => s.setTid p
  | .info p => s.setInfo p

/-- The new outputs are what the rules give for the new inputs. -/
def Driven.Settled : Driven → Prop
  | .pktDec p => p.out = pktDecOut Config.decided p.inp
  | .pktEnc p => p.out = pktEncOut Config.decided p.inp
  | .txnDec p => p.out = txnDecOut Config.decided p.inp
  | .txnEnc p => p.out = txnEncOut p.inp
  | .valPkt p => p.out = valPktOut Config.decided p.inp
  | .valTxn p => p.out = valTxnOut Config.decided p.inp
  | .mkPkt p => p.out = mkPktOut Config.decided p.inp
  | .mkTxn p => p.out = mkTxnOut Config.decided p.inp
  | .ptype p => p.out = packetTypeIsKnown p.inp
  | .tid p => p.out = typeIdIsKnown Config.decided p.inp
  | .info p => p.out = infoOut Config.decided p.inp

/-- Everything `exec` does with an instruction. -/
theorem exec_drives (i : Instr) :
    ∃ d : Driven, d.group = Group.ofInstr i ∧ d.Settled ∧ ∀ s, exec i s = .next (d.apply s) := by
  cases i <;>
    first
    | exact ⟨.pktDec _, rfl, by exact rfl, fun _ => rfl⟩
    | exact ⟨.pktEnc _, rfl, by exact rfl, fun _ => rfl⟩
    | exact ⟨.txnDec _, rfl, by exact rfl, fun _ => rfl⟩
    | exact ⟨.txnEnc _, rfl, by exact rfl, fun _ => rfl⟩
    | exact ⟨.valPkt _, rfl, by exact rfl, fun _ => rfl⟩
    | exact ⟨.valTxn _, rfl, by exact rfl, fun _ => rfl⟩
    | exact ⟨.mkPkt _, rfl, by exact rfl, fun _ => rfl⟩
    | exact ⟨.mkTxn _, rfl, by exact rfl, fun _ => rfl⟩
    | exact ⟨.ptype _, rfl, by exact rfl, fun _ => rfl⟩
    | exact ⟨.tid _, rfl, by exact rfl, fun _ => rfl⟩
    | exact ⟨.info _, rfl, by exact rfl, fun _ => rfl⟩

/-- Everything a step that goes on can have been. -/
theorem step_next {s t : State} (h : step s = .next t) :
    ∃ r rest i, s.requests = r :: rest ∧ decode r = .ok i ∧ exec i (s.setRequests rest) = .next t := by
  unfold step at h
  split at h
  · contradiction
  · rename_i r rest hs
    split at h
    · contradiction
    · rename_i i hi
      exact ⟨r, rest, i, hs, hi, h⟩

end Sys2Proof.Machine
end

