-- ==== Sys2Proof/Laws/Ops.lean ====
section
/-! SUPPORT. What raising an error and reporting a result do to the outputs (60_exceptions.md R181,
R183). -/

namespace Sys2Proof.Machine

/-- 0 is no error's code. -/
theorem errCode_ne_zero {c : Config} (h : c.wf = true) (e : ErrorKind) : errCode c e ≠ 0 := by
  simp only [Config.wf, ErrorCodes.wf, Bool.and_eq_true, decide_eq_true_eq, List.nodup_cons,
    List.mem_cons] at h
  intro h0
  cases e <;> simp only [errCode] at h0 <;> simp_all

/-- "7 is never produced". -/
theorem errCode_ne_seven (e : ErrorKind) : errCode Config.decided e ≠ 7 := by
  cases e <;> decide

/-- A code names one kind. -/
theorem errCode_injective {c : Config} (h : c.wf = true) {e f : ErrorKind}
    (hc : errCode c e = errCode c f) : e = f := by
  simp only [Config.wf, ErrorCodes.wf, Bool.and_eq_true, decide_eq_true_eq, List.nodup_cons,
    List.mem_cons] at h
  cases e <;> cases f <;> first | rfl | (exfalso; simp only [errCode] at hc; simp_all)

theorem checkCode_eq_zero {c : Config} (h : c.wf = true) (o : Option ErrorKind) :
    checkCode c o = 0 ↔ o = none := by
  cases o with
  | none => simp [checkCode]
  | some e => simp only [checkCode, reduceCtorEq, iff_false]; exact errCode_ne_zero h e

section
variable {F A : Type} (c : Config) (zero : F) (view : A → F)

@[simp] theorem report_ok (a : A) :
    report c zero view (.ok a) = { ok := true, err := 0, fields := view a } := rfl

@[simp] theorem report_error (e : ErrorKind) :
    report c zero view (.error e) = { ok := false, err := errCode c e, fields := zero } := rfl

/-- Everything a report can be. -/
theorem report_cases (r : Except ErrorKind A) :
    (∃ a, r = .ok a ∧ report c zero view r = { ok := true, err := 0, fields := view a }) ∨
      ∃ e, r = .error e ∧ report c zero view r = { ok := false, err := errCode c e, fields := zero } := by
  cases r with
  | ok a => exact .inl ⟨a, rfl, rfl⟩
  | error e => exact .inr ⟨e, rfl, rfl⟩

end

end Sys2Proof.Machine
end

