-- ==== Sys2Proof/Laws/PerInstr.lean ====
section
/-! SUPPORT. Per instruction: the request that presents it is well formed. -/

namespace Sys2Proof.Laws.EncodeWellFormed

def Statement (i : Instr) : Prop := (encode i).wf = true

theorem valPktWord w b : Statement (.valPktWord w b) :=
  wordRequest_wf _ _ _ rfl (.inr rfl) (by simp [Select.fixedMask, Select.fixedBits])
theorem valTxnWord w b : Statement (.valTxnWord w b) :=
  wordRequest_wf _ _ _ rfl (.inr rfl) (by simp [Select.fixedMask, Select.fixedBits])
theorem ptypeKnown x : Statement (.ptypeKnown x) :=
  nibbleRequest_wf _ _ rfl rfl rfl
theorem typeidKnown x : Statement (.typeidKnown x) :=
  nibbleRequest_wf _ _ rfl rfl rfl
theorem infoKnown x : Statement (.infoKnown x) :=
  nibbleRequest_wf _ _ rfl rfl rfl
theorem mkPkt id t : Statement (.mkPkt id t) := by
  have : (id ++ t).setWidth Config.OPERANDW >>> (Config.HOSTW + 4) = 0 := by
    ext k hk; simp
  simp [Statement, encode, Request.wf, Request.wholeOperand, Request.noBitAbove, Request.strictIsAPort,
    Request.fixedBitsHold, Select.width, Select.fixedMask, Select.fixedBits, this]
theorem mkTxn a n y c : Statement (.mkTxn a n y c) := by
  have top : ∀ b : BitVec Config.OPERANDW, b >>> (4 * Config.HOSTW) = 0 := fun b => by
    ext k hk; simp
  simp [Statement, encode, Request.wf, Request.wholeOperand, Request.noBitAbove, Request.strictIsAPort,
    Request.fixedBitsHold, Select.width, Select.fixedMask, Select.fixedBits, top]
theorem pktDecode w b : Statement (.pktDecode w b) :=
  wordRequest_wf _ _ _ rfl (.inr rfl) (by simp [Select.fixedMask, Select.fixedBits])
theorem pktEncode id t : Statement (.pktEncode id t) :=
  wordRequest_wf _ _ _ rfl (.inl rfl) (pktEncodeWord_fixed id t)
theorem txnDecode w b : Statement (.txnDecode w b) :=
  wordRequest_wf _ _ _ rfl (.inr rfl) (by simp [Select.fixedMask, Select.fixedBits])
theorem txnEncode id n y c : Statement (.txnEncode id n y c) :=
  wordRequest_wf _ _ _ rfl (.inl rfl) (txnRowWord_fixed id n y c)
theorem classifyInfo x : Statement (.classifyInfo x) :=
  nibbleRequest_wf _ _ rfl rfl rfl
theorem pktControl r p b : Statement (.pktControl r p b) :=
  wordRequest_wf _ _ _ rfl (.inr rfl) (pktRowWord_fixed _ _ _)
theorem pktStatus r p b : Statement (.pktStatus r p b) :=
  wordRequest_wf _ _ _ rfl (.inr rfl) (pktRowWord_fixed _ _ _)
theorem pktResend r p b : Statement (.pktResend r p b) :=
  wordRequest_wf _ _ _ rfl (.inr rfl) (pktRowWord_fixed _ _ _)
theorem pktReserved3 r p b : Statement (.pktReserved3 r p b) :=
  wordRequest_wf _ _ _ rfl (.inr rfl) (pktRowWord_fixed _ _ _)
theorem pktReserved4 r p b : Statement (.pktReserved4 r p b) :=
  wordRequest_wf _ _ _ rfl (.inr rfl) (pktRowWord_fixed _ _ _)
theorem pktReserved5 r p b : Statement (.pktReserved5 r p b) :=
  wordRequest_wf _ _ _ rfl (.inr rfl) (pktRowWord_fixed _ _ _)
theorem pktReserved6 r p b : Statement (.pktReserved6 r p b) :=
  wordRequest_wf _ _ _ rfl (.inr rfl) (pktRowWord_fixed _ _ _)
theorem pktReserved7 r p b : Statement (.pktReserved7 r p b) :=
  wordRequest_wf _ _ _ rfl (.inr rfl) (pktRowWord_fixed _ _ _)
theorem pktReserved8 r p b : Statement (.pktReserved8 r p b) :=
  wordRequest_wf _ _ _ rfl (.inr rfl) (pktRowWord_fixed _ _ _)
theorem pktReserved9 r p b : Statement (.pktReserved9 r p b) :=
  wordRequest_wf _ _ _ rfl (.inr rfl) (pktRowWord_fixed _ _ _)
theorem pktReservedA r p b : Statement (.pktReservedA r p b) :=
  wordRequest_wf _ _ _ rfl (.inr rfl) (pktRowWord_fixed _ _ _)
theorem pktReservedB r p b : Statement (.pktReservedB r p b) :=
  wordRequest_wf _ _ _ rfl (.inr rfl) (pktRowWord_fixed _ _ _)
theorem pktReservedC r p b : Statement (.pktReservedC r p b) :=
  wordRequest_wf _ _ _ rfl (.inr rfl) (pktRowWord_fixed _ _ _)
theorem pktReservedD r p b : Statement (.pktReservedD r p b) :=
  wordRequest_wf _ _ _ rfl (.inr rfl) (pktRowWord_fixed _ _ _)
theorem pktReservedE r p b : Statement (.pktReservedE r p b) :=
  wordRequest_wf _ _ _ rfl (.inr rfl) (pktRowWord_fixed _ _ _)
theorem pktReservedF r p b : Statement (.pktReservedF r p b) :=
  wordRequest_wf _ _ _ rfl (.inr rfl) (pktRowWord_fixed _ _ _)
theorem txnTypeRead id n x b : Statement (.txnTypeRead id n x b) :=
  wordRequest_wf _ _ _ rfl (.inr rfl) (txnRowWord_fixed _ _ _ _)
theorem txnTypeWrite id n x b : Statement (.txnTypeWrite id n x b) :=
  wordRequest_wf _ _ _ rfl (.inr rfl) (txnRowWord_fixed _ _ _ _)
theorem txnTypeReserved2 id n x b : Statement (.txnTypeReserved2 id n x b) :=
  wordRequest_wf _ _ _ rfl (.inr rfl) (txnRowWord_fixed _ _ _ _)
theorem txnTypeReserved3 id n x b : Statement (.txnTypeReserved3 id n x b) :=
  wordRequest_wf _ _ _ rfl (.inr rfl) (txnRowWord_fixed _ _ _ _)
theorem txnTypeReserved4 id n x b : Statement (.txnTypeReserved4 id n x b) :=
  wordRequest_wf _ _ _ rfl (.inr rfl) (txnRowWord_fixed _ _ _ _)
theorem txnTypeReserved5 id n x b : Statement (.txnTypeReserved5 id n x b) :=
  wordRequest_wf _ _ _ rfl (.inr rfl) (txnRowWord_fixed _ _ _ _)
theorem txnTypeReserved6 id n x b : Statement (.txnTypeReserved6 id n x b) :=
  wordRequest_wf _ _ _ rfl (.inr rfl) (txnRowWord_fixed _ _ _ _)
theorem txnTypeReserved7 id n x b : Statement (.txnTypeReserved7 id n x b) :=
  wordRequest_wf _ _ _ rfl (.inr rfl) (txnRowWord_fixed _ _ _ _)
theorem txnTypeReserved8 id n x b : Statement (.txnTypeReserved8 id n x b) :=
  wordRequest_wf _ _ _ rfl (.inr rfl) (txnRowWord_fixed _ _ _ _)
theorem txnTypeReserved9 id n x b : Statement (.txnTypeReserved9 id n x b) :=
  wordRequest_wf _ _ _ rfl (.inr rfl) (txnRowWord_fixed _ _ _ _)
theorem txnTypeReservedA id n x b : Statement (.txnTypeReservedA id n x b) :=
  wordRequest_wf _ _ _ rfl (.inr rfl) (txnRowWord_fixed _ _ _ _)
theorem txnTypeReservedB id n x b : Statement (.txnTypeReservedB id n x b) :=
  wordRequest_wf _ _ _ rfl (.inr rfl) (txnRowWord_fixed _ _ _ _)
theorem txnTypeReservedC id n x b : Statement (.txnTypeReservedC id n x b) :=
  wordRequest_wf _ _ _ rfl (.inr rfl) (txnRowWord_fixed _ _ _ _)
theorem txnTypeReservedD id n x b : Statement (.txnTypeReservedD id n x b) :=
  wordRequest_wf _ _ _ rfl (.inr rfl) (txnRowWord_fixed _ _ _ _)
theorem txnTypeReservedE id n x b : Statement (.txnTypeReservedE id n x b) :=
  wordRequest_wf _ _ _ rfl (.inr rfl) (txnRowWord_fixed _ _ _ _)
theorem txnTypeReservedF id n x b : Statement (.txnTypeReservedF id n x b) :=
  wordRequest_wf _ _ _ rfl (.inr rfl) (txnRowWord_fixed _ _ _ _)
theorem txnInfoRequestSuccess id n x b : Statement (.txnInfoRequestSuccess id n x b) :=
  wordRequest_wf _ _ _ rfl (.inr rfl) (txnRowWord_fixed _ _ _ _)
theorem txnInfoBadHeader id n x b : Statement (.txnInfoBadHeader id n x b) :=
  wordRequest_wf _ _ _ rfl (.inr rfl) (txnRowWord_fixed _ _ _ _)
theorem txnInfoReserved2 id n x b : Statement (.txnInfoReserved2 id n x b) :=
  wordRequest_wf _ _ _ rfl (.inr rfl) (txnRowWord_fixed _ _ _ _)
theorem txnInfoReserved3 id n x b : Statement (.txnInfoReserved3 id n x b) :=
  wordRequest_wf _ _ _ rfl (.inr rfl) (txnRowWord_fixed _ _ _ _)
theorem txnInfoReadBusError id n x b : Statement (.txnInfoReadBusError id n x b) :=
  wordRequest_wf _ _ _ rfl (.inr rfl) (txnRowWord_fixed _ _ _ _)
theorem txnInfoWriteBusError id n x b : Statement (.txnInfoWriteBusError id n x b) :=
  wordRequest_wf _ _ _ rfl (.inr rfl) (txnRowWord_fixed _ _ _ _)
theorem txnInfoReadBusTimeout id n x b : Statement (.txnInfoReadBusTimeout id n x b) :=
  wordRequest_wf _ _ _ rfl (.inr rfl) (txnRowWord_fixed _ _ _ _)
theorem txnInfoWriteBusTimeout id n x b : Statement (.txnInfoWriteBusTimeout id n x b) :=
  wordRequest_wf _ _ _ rfl (.inr rfl) (txnRowWord_fixed _ _ _ _)
theorem txnInfoReserved8 id n x b : Statement (.txnInfoReserved8 id n x b) :=
  wordRequest_wf _ _ _ rfl (.inr rfl) (txnRowWord_fixed _ _ _ _)
theorem txnInfoReserved9 id n x b : Statement (.txnInfoReserved9 id n x b) :=
  wordRequest_wf _ _ _ rfl (.inr rfl) (txnRowWord_fixed _ _ _ _)
theorem txnInfoReservedA id n x b : Statement (.txnInfoReservedA id n x b) :=
  wordRequest_wf _ _ _ rfl (.inr rfl) (txnRowWord_fixed _ _ _ _)
theorem txnInfoReservedB id n x b : Statement (.txnInfoReservedB id n x b) :=
  wordRequest_wf _ _ _ rfl (.inr rfl) (txnRowWord_fixed _ _ _ _)
theorem txnInfoReservedC id n x b : Statement (.txnInfoReservedC id n x b) :=
  wordRequest_wf _ _ _ rfl (.inr rfl) (txnRowWord_fixed _ _ _ _)
theorem txnInfoReservedD id n x b : Statement (.txnInfoReservedD id n x b) :=
  wordRequest_wf _ _ _ rfl (.inr rfl) (txnRowWord_fixed _ _ _ _)
theorem txnInfoReservedE id n x b : Statement (.txnInfoReservedE id n x b) :=
  wordRequest_wf _ _ _ rfl (.inr rfl) (txnRowWord_fixed _ _ _ _)
theorem txnInfoUnknownRequest id n x b : Statement (.txnInfoUnknownRequest id n x b) :=
  wordRequest_wf _ _ _ rfl (.inr rfl) (txnRowWord_fixed _ _ _ _)

end Sys2Proof.Laws.EncodeWellFormed
end

