-- ==== Sys2Proof/Tests/Slice0.lean ====
section
/-! SUPPORT. The model's own tests. Expected results come from outside the model: the source's examples
S1 to S5 and the derived vectors V1 to V8 and Programs 3 to 5 of 95_test_vectors.md, the patterns of
spec/opcode_table.json written out bit by bit, and hand calculation from the rule named. The last part
shows, for every statement with hypotheses, values that meet them all. -/

namespace Sys2Proof.Tests

open Sys2Proof.Machine

/-! ## Well-formedness: every check refuses an ill-formed term. -/

/-- 20_memory.md R44: half a word is no request. -/
theorem test_request_partial_operand :
    (Request.mk .pktDecode false 16 0x00F0).wf = false ∧
      decode (Request.mk .pktDecode false 16 0x00F0) = .error .partialOperand := by decide

theorem test_request_bit_above_operand :
    (Request.mk .ptypeKnown false 4 0x10).wf = false ∧
      decode (Request.mk .ptypeKnown false 4 0x10) = .error .bitAboveOperand := by decide

/-- 10_state.md R27: the encoder has no `strict` input. -/
theorem test_request_no_strict_port :
    (Request.mk .pktEncode true 32 0x200000F0).wf = false ∧
      decode (Request.mk .pktEncode true 32 0x200000F0) = .error .noStrictPort := by decide

/-- A row word without its version bit, and one without its byte-order qualifier. -/
theorem test_request_fixed_bits_differ :
    decode (Request.mk .pktRow false 32 0x000000F0) = .error .fixedBitsDiffer ∧
      decode (Request.mk .pktRow false 32 0x20000000) = .error .fixedBitsDiffer ∧
      decode (Request.mk .txnTypeRow false 32 0x30010410) = .error .fixedBitsDiffer ∧
      (Request.mk .pktRow false 32 0x000000F0).wf = false := by decide

/-- The decided configuration with the packet ID elsewhere. -/
def idAt (p : Nat) : Config := { Config.decided with pidLsb := p }

/-- D5: 7 and 13 are no admissible PID_LSB; D11: Read and Write have different numbers; R9: HOSTW is at least
17. -/
theorem test_config_ill_formed :
    (idAt 7).wf = false ∧ (idAt 13).wf = false ∧ ({ Config.decided with typeRead := 1 } : Config).wf = false ∧
      ({ Config.decided with hostW := 16 } : Config).wf = false := by decide

/-- D9, D16: a code of no error, two kinds with one code, two outcomes with one code. -/
theorem test_codes_ill_formed :
    ({ Config.decided.errorCodes with invalidField := 0 } : ErrorCodes).wf = false ∧
      ({ Config.decided.errorCodes with byteOrderMismatch := 1 } : ErrorCodes).wf = false ∧
      ({ Config.decided.outcomeCodes with protocolFault := 1 } : OutcomeCodes).wf = false ∧
      ({ Config.decided with
          errorCodes := { Config.decided.errorCodes with invalidField := 0 } } : Config).wf = false ∧
      ({ Config.decided with
          outcomeCodes := { Config.decided.outcomeCodes with success := 2 } } : Config).wf = false := by decide

/-- R181, R171: the decided numbers, each under its name. -/
theorem test_decided_codes :
    [ErrorKind.protocolVersionMismatch, .byteOrderMismatch, .invalidField, .unknownPacketType,
        .unknownTransactionCode, .reservedBitSet].map (errCode Config.decided) = [1, 2, 3, 4, 5, 6] ∧
      [InfoOutcome.success, .recoverableBusFault .read .busError, .protocolFault].map
        (outcomeCode Config.decided) = [0, 1, 2] := by decide

/-- R60, D5: the word written out with the packet ID 0xABCD at bits 23:8, 25:10 and 27:12 and the reserved
bits 00, 0 and 1010 around it. -/
theorem test_packet_word_at_every_place :
    pktRowWord (idAt 8) 0x1 0b0001010 0xABCD = 0b00101010101010111100110111110001 ∧
      pktRowWord (idAt 10) 0x1 0b0001010 0xABCD = 0b00101010101011110011011011110001 ∧
      pktRowWord (idAt 12) 0x1 0b0001010 0xABCD = 0b00101010101111001101101011110001 ∧
      reservedBits (idAt 10) 0b00101010101011110011011011110001 = 0b0001010 := by decide

/-- R32, R33: a known code is never carried as unknown. -/
theorem test_tags_ill_formed :
    (PacketType.unknown 2).wf = false ∧ (TypeId.unknown 1).wf Config.decided = false ∧
      (InfoCode.unknown 0xF).wf = false := by decide

/-- R32: version 2, qualifier 0xF, a proper tag; an unknown type is not valid for encoding. -/
theorem test_packet_header_ill_formed :
    (PacketHeader.mk 3 0 0xF .control).wf = false ∧ (PacketHeader.mk 2 0 0xE .control).wf = false ∧
      (PacketHeader.mk 2 0 0xF (.unknown 0)).wf = false ∧
      (PacketHeader.mk 2 0 0xF (.unknown 3)).validForEncoding = false := by decide

/-- R33. -/
theorem test_transaction_header_ill_formed :
    (TransactionHeader.mk 1 0 0 .read .requestSuccess).wf Config.decided = false ∧
      (TransactionHeader.mk 2 0 0 (.unknown 0) .requestSuccess).wf Config.decided = false ∧
      (TransactionHeader.mk 2 0 0 .read (.unknown 4)).wf Config.decided = false := by decide

/-! ## Decoding: words written out from the patterns of spec/opcode_table.json. -/

theorem test_decode_operations_on_words :
    decode (Request.mk .valPktWord true 32 0b11110000000000000000000011110010#128)
      = .ok (.valPktWord 0xF00000F2 true) ∧
    decode (Request.mk .valTxnWord false 32 0b00100000000000010000010000010010#128)
      = .ok (.valTxnWord 0x20010412 false) ∧
    decode (Request.mk .pktDecode true 32 0b00100000101010111100110111110010#128)
      = .ok (.pktDecode 0x20ABCDF2 true) ∧
    decode (Request.mk .txnDecode false 32 0b00101010101111000000000000010101#128)
      = .ok (.txnDecode 0x2ABC0015 false) ∧
    decode (Request.mk .pktEncode false 32 0b00100000100000000000000011110010#128)
      = .ok (.pktEncode 0x8000 0x2) ∧
    decode (Request.mk .txnEncode false 32 0b00100001001000111111111100000110#128)
      = .ok (.txnEncode 0x123 0xFF 0x0 0x6) := by decide

theorem test_decode_operations_on_nibbles :
    decode (Request.mk .ptypeKnown false 4 0b0010#128) = .ok (.ptypeKnown 0x2) ∧
    decode (Request.mk .typeidKnown false 4 0b1000#128) = .ok (.typeidKnown 0x8) ∧
    decode (Request.mk .infoKnown false 4 0b1111#128) = .ok (.infoKnown 0xF) ∧
    decode (Request.mk .classifyInfo false 4 0b0110#128) = .ok (.classifyInfo 0x6) := by decide

/-- 32 bits of h then 4 of t; 32 bits each of a, n, y, c. -/
theorem test_decode_constructors :
    decode (Request.mk .mkPkt false 36 0b000000000000000100000000000000001111#128)
      = .ok (.mkPkt 0x00010000 0xF) ∧
    decode (Request.mk .mkTxn false 128 0x80000001000001000000001000000005#128)
      = .ok (.mkTxn 0x80000001 0x100 0x10 0x5) := by decide

/-- Format PKT, rr1rrrrrpppppppppppppppp1111tttt (R60, R66): r = 10 01101, p = 0x8001. -/
theorem test_decode_packet_rows_low :
    decode (Request.mk .pktRow true 32 0b10101101100000000000000111110000#128)
      = .ok (.pktControl 0b1001101 0x8001 true) ∧
    decode (Request.mk .pktRow true 32 0b10101101100000000000000111110001#128)
      = .ok (.pktStatus 0b1001101 0x8001 true) ∧
    decode (Request.mk .pktRow true 32 0b10101101100000000000000111110010#128)
      = .ok (.pktResend 0b1001101 0x8001 true) ∧
    decode (Request.mk .pktRow true 32 0b10101101100000000000000111110011#128)
      = .ok (.pktReserved3 0b1001101 0x8001 true) ∧
    decode (Request.mk .pktRow true 32 0b10101101100000000000000111110100#128)
      = .ok (.pktReserved4 0b1001101 0x8001 true) ∧
    decode (Request.mk .pktRow true 32 0b10101101100000000000000111110101#128)
      = .ok (.pktReserved5 0b1001101 0x8001 true) ∧
    decode (Request.mk .pktRow true 32 0b10101101100000000000000111110110#128)
      = .ok (.pktReserved6 0b1001101 0x8001 true) ∧
    decode (Request.mk .pktRow true 32 0b10101101100000000000000111110111#128)
      = .ok (.pktReserved7 0b1001101 0x8001 true) := by decide

/-- Format PKT, the upper half. -/
theorem test_decode_packet_rows_high :
    decode (Request.mk .pktRow true 32 0b10101101100000000000000111111000#128)
      = .ok (.pktReserved8 0b1001101 0x8001 true) ∧
    decode (Request.mk .pktRow true 32 0b10101101100000000000000111111001#128)
      = .ok (.pktReserved9 0b1001101 0x8001 true) ∧
    decode (Request.mk .pktRow true 32 0b10101101100000000000000111111010#128)
      = .ok (.pktReservedA 0b1001101 0x8001 true) ∧
    decode (Request.mk .pktRow true 32 0b10101101100000000000000111111011#128)
      = .ok (.pktReservedB 0b1001101 0x8001 true) ∧
    decode (Request.mk .pktRow true 32 0b10101101100000000000000111111100#128)
      = .ok (.pktReservedC 0b1001101 0x8001 true) ∧
    decode (Request.mk .pktRow true 32 0b10101101100000000000000111111101#128)
      = .ok (.pktReservedD 0b1001101 0x8001 true) ∧
    decode (Request.mk .pktRow true 32 0b10101101100000000000000111111110#128)
      = .ok (.pktReservedE 0b1001101 0x8001 true) ∧
    decode (Request.mk .pktRow true 32 0b10101101100000000000000111111111#128)
      = .ok (.pktReservedF 0b1001101 0x8001 true) := by decide

/-- Format TXN.TYPE, 0010iiiiiiiiiiiiwwwwwwwwyyyycccc (R61, R67). -/
theorem test_decode_type_rows_low :
    decode (Request.mk .txnTypeRow false 32 0b00101000000000010100000100000110#128)
      = .ok (.txnTypeRead 0x801 0x41 0x6 false) ∧
    decode (Request.mk .txnTypeRow false 32 0b00101000000000010100000100010110#128)
      = .ok (.txnTypeWrite 0x801 0x41 0x6 false) ∧
    decode (Request.mk .txnTypeRow false 32 0b00101000000000010100000100100110#128)
      = .ok (.txnTypeReserved2 0x801 0x41 0x6 false) ∧
    decode (Request.mk .txnTypeRow false 32 0b00101000000000010100000100110110#128)
      = .ok (.txnTypeReserved3 0x801 0x41 0x6 false) ∧
    decode (Request.mk .txnTypeRow false 32 0b00101000000000010100000101000110#128)
      = .ok (.txnTypeReserved4 0x801 0x41 0x6 false) ∧
    decode (Request.mk .txnTypeRow false 32 0b00101000000000010100000101010110#128)
      = .ok (.txnTypeReserved5 0x801 0x41 0x6 false) ∧
    decode (Request.mk .txnTypeRow false 32 0b00101000000000010100000101100110#128)
      = .ok (.txnTypeReserved6 0x801 0x41 0x6 false) ∧
    decode (Request.mk .txnTypeRow false 32 0b00101000000000010100000101110110#128)
      = .ok (.txnTypeReserved7 0x801 0x41 0x6 false) := by decide

/-- Format TXN.TYPE, the upper half. -/
theorem test_decode_type_rows_high :
    decode (Request.mk .txnTypeRow false 32 0b00101000000000010100000110000110#128)
      = .ok (.txnTypeReserved8 0x801 0x41 0x6 false) ∧
    decode (Request.mk .txnTypeRow false 32 0b00101000000000010100000110010110#128)
      = .ok (.txnTypeReserved9 0x801 0x41 0x6 false) ∧
    decode (Request.mk .txnTypeRow false 32 0b00101000000000010100000110100110#128)
      = .ok (.txnTypeReservedA 0x801 0x41 0x6 false) ∧
    decode (Request.mk .txnTypeRow false 32 0b00101000000000010100000110110110#128)
      = .ok (.txnTypeReservedB 0x801 0x41 0x6 false) ∧
    decode (Request.mk .txnTypeRow false 32 0b00101000000000010100000111000110#128)
      = .ok (.txnTypeReservedC 0x801 0x41 0x6 false) ∧
    decode (Request.mk .txnTypeRow false 32 0b00101000000000010100000111010110#128)
      = .ok (.txnTypeReservedD 0x801 0x41 0x6 false) ∧
    decode (Request.mk .txnTypeRow false 32 0b00101000000000010100000111100110#128)
      = .ok (.txnTypeReservedE 0x801 0x41 0x6 false) ∧
    decode (Request.mk .txnTypeRow false 32 0b00101000000000010100000111110110#128)
      = .ok (.txnTypeReservedF 0x801 0x41 0x6 false) := by decide

/-- Format TXN.INFO (R61, R68). -/
theorem test_decode_info_rows_low :
    decode (Request.mk .txnInfoRow true 32 0b00101000000000010100000101100000#128)
      = .ok (.txnInfoRequestSuccess 0x801 0x41 0x6 true) ∧
    decode (Request.mk .txnInfoRow true 32 0b00101000000000010100000101100001#128)
      = .ok (.txnInfoBadHeader 0x801 0x41 0x6 true) ∧
    decode (Request.mk .txnInfoRow true 32 0b00101000000000010100000101100010#128)
      = .ok (.txnInfoReserved2 0x801 0x41 0x6 true) ∧
    decode (Request.mk .txnInfoRow true 32 0b00101000000000010100000101100011#128)
      = .ok (.txnInfoReserved3 0x801 0x41 0x6 true) ∧
    decode (Request.mk .txnInfoRow true 32 0b00101000000000010100000101100100#128)
      = .ok (.txnInfoReadBusError 0x801 0x41 0x6 true) ∧
    decode (Request.mk .txnInfoRow true 32 0b00101000000000010100000101100101#128)
      = .ok (.txnInfoWriteBusError 0x801 0x41 0x6 true) ∧
    decode (Request.mk .txnInfoRow true 32 0b00101000000000010100000101100110#128)
      = .ok (.txnInfoReadBusTimeout 0x801 0x41 0x6 true) ∧
    decode (Request.mk .txnInfoRow true 32 0b00101000000000010100000101100111#128)
      = .ok (.txnInfoWriteBusTimeout 0x801 0x41 0x6 true) := by decide

/-- Format TXN.INFO, the upper half. -/
theorem test_decode_info_rows_high :
    decode (Request.mk .txnInfoRow true 32 0b00101000000000010100000101101000#128)
      = .ok (.txnInfoReserved8 0x801 0x41 0x6 true) ∧
    decode (Request.mk .txnInfoRow true 32 0b00101000000000010100000101101001#128)
      = .ok (.txnInfoReserved9 0x801 0x41 0x6 true) ∧
    decode (Request.mk .txnInfoRow true 32 0b00101000000000010100000101101010#128)
      = .ok (.txnInfoReservedA 0x801 0x41 0x6 true) ∧
    decode (Request.mk .txnInfoRow true 32 0b00101000000000010100000101101011#128)
      = .ok (.txnInfoReservedB 0x801 0x41 0x6 true) ∧
    decode (Request.mk .txnInfoRow true 32 0b00101000000000010100000101101100#128)
      = .ok (.txnInfoReservedC 0x801 0x41 0x6 true) ∧
    decode (Request.mk .txnInfoRow true 32 0b00101000000000010100000101101101#128)
      = .ok (.txnInfoReservedD 0x801 0x41 0x6 true) ∧
    decode (Request.mk .txnInfoRow true 32 0b00101000000000010100000101101110#128)
      = .ok (.txnInfoReservedE 0x801 0x41 0x6 true) ∧
    decode (Request.mk .txnInfoRow true 32 0b00101000000000010100000101101111#128)
      = .ok (.txnInfoUnknownRequest 0x801 0x41 0x6 true) := by decide

/-! ## What each instruction answers. -/

/-- The state after one evaluation; every meaning answers with a next state. -/
def after (i : Instr) : State :=
  match exec i State.reset with
  | .next t => t
  | .fault _ => State.reset
  | .refused _ => State.reset

/-- S1, V1: the source's example, and a word with every bit field in use (D5). -/
theorem test_pktDecode_accepts :
    (after (.pktDecode 0x200000F0 false)).pktDec.out = ⟨true, 0, ⟨2, 0, 0xF, 0, true⟩⟩ ∧
      (after (.pktDecode 0x201234F1 true)).pktDec.out = ⟨true, 0, ⟨2, 0x1234, 0xF, 1, true⟩⟩ ∧
      (after (.pktDecode 0xFF0000F0 false)).pktDec.out = ⟨true, 0, ⟨2, 0, 0xF, 0, true⟩⟩ ∧
      (after (.pktDecode 0xFFFFFFFF false)).pktDec.out = ⟨true, 0, ⟨2, 0xFFFF, 0xF, 0xF, false⟩⟩ := by
  decide

/-- V1: words in which 4, 3, 2 and 1 causes are present: the priority of R187 (D8). -/
theorem test_pktDecode_priority :
    (after (.pktDecode 0xC0000003 true)).pktDec.out = ⟨false, 1, pktDecZero⟩ ∧
      (after (.pktDecode 0xF0000023 true)).pktDec.out = ⟨false, 2, pktDecZero⟩ ∧
      (after (.pktDecode 0xF00000F3 true)).pktDec.out = ⟨false, 4, pktDecZero⟩ ∧
      (after (.pktDecode 0xF00000F2 true)).pktDec.out = ⟨false, 6, pktDecZero⟩ := by decide

/-- V2. -/
theorem test_pktEncode_accepts :
    (after (.pktEncode 0x8000 2)).pktEnc.out = ⟨true, 0, 0x208000F2⟩ ∧
      (after (.pktEncode 0x0001 0)).pktEnc.out = ⟨true, 0, 0x200001F0⟩ ∧
      (after (.pktEncode 0xFFFF 2)).pktEnc.out = ⟨true, 0, 0x20FFFFF2⟩ := by decide

/-- V2: the first rejected type and the last. -/
theorem test_pktEncode_rejects :
    (after (.pktEncode 0x0000 3)).pktEnc.out = ⟨false, 3, 0⟩ ∧
      (after (.pktEncode 0xABCD 15)).pktEnc.out = ⟨false, 3, 0⟩ := by decide

/-- S2, V3: field boundaries, and a reserved code kept (S4). -/
theorem test_txnDecode_accepts :
    (after (.txnDecode 0x20010410 true)).txnDec.out = ⟨true, 0, ⟨2, 0x001, 0x04, 1, true, 0, true⟩⟩ ∧
      (after (.txnDecode 0x2123FF06 true)).txnDec.out = ⟨true, 0, ⟨2, 0x123, 0xFF, 0, true, 6, true⟩⟩ ∧
      (after (.txnDecode 0x20010412 false)).txnDec.out = ⟨true, 0, ⟨2, 0x001, 0x04, 1, true, 2, false⟩⟩ ∧
      (after (.txnDecode 0x2200BC2A false)).txnDec.out
        = ⟨true, 0, ⟨2, 0x200, 0xBC, 2, false, 0xA, false⟩⟩ := by decide

/-- V3, S4: the whole version nibble is compared; strict rejects either unknown code (D10). -/
theorem test_txnDecode_rejects :
    (after (.txnDecode 0x30010410 false)).txnDec.out = ⟨false, 1, txnDecZero⟩ ∧
      (after (.txnDecode 0x20010412 true)).txnDec.out = ⟨false, 5, txnDecZero⟩ ∧
      (after (.txnDecode 0x20010420 true)).txnDec.out = ⟨false, 5, txnDecZero⟩ ∧
      (after (.txnDecode 0x100000A2 true)).txnDec.out = ⟨false, 1, txnDecZero⟩ := by decide

/-- V4. -/
theorem test_txnEncode_words :
    (after (.txnEncode 0x001 0x04 1 0)).txnEnc.out = ⟨true, 0, 0x20010410⟩ ∧
      (after (.txnEncode 0xABC 0x00 1 5)).txnEnc.out = ⟨true, 0, 0x2ABC0015⟩ ∧
      (after (.txnEncode 0x123 0xFF 0 6)).txnEnc.out = ⟨true, 0, 0x2123FF06⟩ ∧
      (after (.txnEncode 0xFFF 0xFF 0xF 0xF)).txnEnc.out = ⟨true, 0, 0x2FFFFFFF⟩ := by decide

/-- V1. -/
theorem test_valPktWord :
    (after (.valPktWord 0x20ABCDF2 true)).valPkt.out = 0 ∧
      (after (.valPktWord 0x100000F0 false)).valPkt.out = 1 ∧
      (after (.valPktWord 0x2000000F false)).valPkt.out = 2 ∧
      (after (.valPktWord 0xFFFFFFFF true)).valPkt.out = 4 ∧
      (after (.valPktWord 0x300000F0 true)).valPkt.out = 6 ∧
      (after (.valPktWord 0x300000F0 false)).valPkt.out = 0 := by decide

/-- V3. -/
theorem test_valTxnWord :
    (after (.valTxnWord 0x2001040F true)).valTxn.out = 0 ∧
      (after (.valTxnWord 0xA0010410 false)).valTxn.out = 1 ∧
      (after (.valTxnWord 0x20010413 true)).valTxn.out = 5 ∧
      (after (.valTxnWord 0x200104F0 true)).valTxn.out = 5 ∧
      (after (.valTxnWord 0x200104F0 false)).valTxn.out = 0 := by decide

/-- V6. -/
theorem test_ptypeKnown :
    (List.range 16).map (fun n => (after (.ptypeKnown (BitVec.ofNat 4 n))).ptype.out)
      = [true, true, true] ++ List.replicate 13 false := by decide

/-- V6 (D11). -/
theorem test_typeidKnown :
    (List.range 16).map (fun n => (after (.typeidKnown (BitVec.ofNat 4 n))).tid.out)
      = [true, true] ++ List.replicate 14 false := by decide

/-- V6. -/
theorem test_infoKnown :
    (List.range 16).map (fun n => (after (.infoKnown (BitVec.ofNat 4 n))).info.out.known)
      = [true, true, false, false, true, true, true, true, false, false, false, false, false, false,
        false, true] := by decide

/-- S3, V7. -/
theorem test_classifyInfo :
    (after (.classifyInfo 0x0)).info.out = ⟨true, 0, false, false⟩ ∧
      (after (.classifyInfo 0x4)).info.out = ⟨true, 1, false, false⟩ ∧
      (after (.classifyInfo 0x5)).info.out = ⟨true, 1, true, false⟩ ∧
      (after (.classifyInfo 0x6)).info.out = ⟨true, 1, false, true⟩ ∧
      (after (.classifyInfo 0x7)).info.out = ⟨true, 1, true, true⟩ ∧
      (after (.classifyInfo 0xF)).info.out = ⟨true, 2, false, false⟩ ∧
      (after (.classifyInfo 0x2)).info.out = ⟨false, 2, false, false⟩ := by decide

/-- V5: the bound is inclusive, and no value is cut before it is tested. -/
theorem test_mkPkt :
    (after (.mkPkt 0x0000FFFF 2)).mkPkt.out = ⟨true, 0, ⟨0xFFFF, 2⟩⟩ ∧
      (after (.mkPkt 0x00001234 0xF)).mkPkt.out = ⟨true, 0, ⟨0x1234, 0xF⟩⟩ ∧
      (after (.mkPkt 0x00010000 0)).mkPkt.out = ⟨false, 3, ⟨0, 0⟩⟩ ∧
      (after (.mkPkt 0xFFFFFFFF 1)).mkPkt.out = ⟨false, 3, ⟨0, 0⟩⟩ := by decide

/-- V5. -/
theorem test_mkTxn_accepts :
    (after (.mkTxn 4095 255 15 15)).mkTxn.out = ⟨true, 0, ⟨0xFFF, 0xFF, 0xF, 0xF⟩⟩ ∧
      (after (.mkTxn 1 4 1 0)).mkTxn.out = ⟨true, 0, ⟨0x001, 0x04, 0x1, 0x0⟩⟩ := by decide

/-- V5: each of the four bounds alone. -/
theorem test_mkTxn_rejects :
    (after (.mkTxn 4096 0 0 0)).mkTxn.out = ⟨false, 3, ⟨0, 0, 0, 0⟩⟩ ∧
      (after (.mkTxn 0 256 0 0)).mkTxn.out = ⟨false, 3, ⟨0, 0, 0, 0⟩⟩ ∧
      (after (.mkTxn 0 0 16 0)).mkTxn.out = ⟨false, 3, ⟨0, 0, 0, 0⟩⟩ ∧
      (after (.mkTxn 0 0 0 16)).mkTxn.out = ⟨false, 3, ⟨0, 0, 0, 0⟩⟩ ∧
      (after (.mkTxn 0x80000001 0 0 0)).mkTxn.out = ⟨false, 3, ⟨0, 0, 0, 0⟩⟩ := by decide

/-! The code rows: the word of every row, leniently; and what strict mode answers (R130, R150). -/

/-- R66, R130: reserved bits ignored, the raw type kept. -/
theorem test_packet_rows_lenient :
    (after (.pktControl 0b1000001 0xABCD false)).pktDec.out = ⟨true, 0, ⟨2, 0xABCD, 0xF, 0x0, true⟩⟩ ∧
    (after (.pktStatus 0b1000001 0xABCD false)).pktDec.out = ⟨true, 0, ⟨2, 0xABCD, 0xF, 0x1, true⟩⟩ ∧
    (after (.pktResend 0b1000001 0xABCD false)).pktDec.out = ⟨true, 0, ⟨2, 0xABCD, 0xF, 0x2, true⟩⟩ ∧
    (after (.pktReserved3 0b1000001 0xABCD false)).pktDec.out = ⟨true, 0, ⟨2, 0xABCD, 0xF, 0x3, false⟩⟩ ∧
    (after (.pktReserved4 0b1000001 0xABCD false)).pktDec.out = ⟨true, 0, ⟨2, 0xABCD, 0xF, 0x4, false⟩⟩ ∧
    (after (.pktReserved5 0b1000001 0xABCD false)).pktDec.out = ⟨true, 0, ⟨2, 0xABCD, 0xF, 0x5, false⟩⟩ ∧
    (after (.pktReserved6 0b1000001 0xABCD false)).pktDec.out = ⟨true, 0, ⟨2, 0xABCD, 0xF, 0x6, false⟩⟩ ∧
    (after (.pktReserved7 0b1000001 0xABCD false)).pktDec.out = ⟨true, 0, ⟨2, 0xABCD, 0xF, 0x7, false⟩⟩ ∧
    (after (.pktReserved8 0b1000001 0xABCD false)).pktDec.out = ⟨true, 0, ⟨2, 0xABCD, 0xF, 0x8, false⟩⟩ ∧
    (after (.pktReserved9 0b1000001 0xABCD false)).pktDec.out = ⟨true, 0, ⟨2, 0xABCD, 0xF, 0x9, false⟩⟩ ∧
    (after (.pktReservedA 0b1000001 0xABCD false)).pktDec.out = ⟨true, 0, ⟨2, 0xABCD, 0xF, 0xA, false⟩⟩ ∧
    (after (.pktReservedB 0b1000001 0xABCD false)).pktDec.out = ⟨true, 0, ⟨2, 0xABCD, 0xF, 0xB, false⟩⟩ ∧
    (after (.pktReservedC 0b1000001 0xABCD false)).pktDec.out = ⟨true, 0, ⟨2, 0xABCD, 0xF, 0xC, false⟩⟩ ∧
    (after (.pktReservedD 0b1000001 0xABCD false)).pktDec.out = ⟨true, 0, ⟨2, 0xABCD, 0xF, 0xD, false⟩⟩ ∧
    (after (.pktReservedE 0b1000001 0xABCD false)).pktDec.out = ⟨true, 0, ⟨2, 0xABCD, 0xF, 0xE, false⟩⟩ ∧
    (after (.pktReservedF 0b1000001 0xABCD false)).pktDec.out = ⟨true, 0, ⟨2, 0xABCD, 0xF, 0xF, false⟩⟩ := by decide

/-- R66, R130: UnknownPacketType for the reserved types. -/
theorem test_packet_rows_strict :
    (after (.pktControl 0 0x1234 true)).pktDec.out.err = 0 ∧
    (after (.pktStatus 0 0x1234 true)).pktDec.out.err = 0 ∧
    (after (.pktResend 0 0x1234 true)).pktDec.out.err = 0 ∧
    (after (.pktReserved3 0 0x1234 true)).pktDec.out.err = 4 ∧
    (after (.pktReserved4 0 0x1234 true)).pktDec.out.err = 4 ∧
    (after (.pktReserved5 0 0x1234 true)).pktDec.out.err = 4 ∧
    (after (.pktReserved6 0 0x1234 true)).pktDec.out.err = 4 ∧
    (after (.pktReserved7 0 0x1234 true)).pktDec.out.err = 4 ∧
    (after (.pktReserved8 0 0x1234 true)).pktDec.out.err = 4 ∧
    (after (.pktReserved9 0 0x1234 true)).pktDec.out.err = 4 ∧
    (after (.pktReservedA 0 0x1234 true)).pktDec.out.err = 4 ∧
    (after (.pktReservedB 0 0x1234 true)).pktDec.out.err = 4 ∧
    (after (.pktReservedC 0 0x1234 true)).pktDec.out.err = 4 ∧
    (after (.pktReservedD 0 0x1234 true)).pktDec.out.err = 4 ∧
    (after (.pktReservedE 0 0x1234 true)).pktDec.out.err = 4 ∧
    (after (.pktReservedF 0 0x1234 true)).pktDec.out.err = 4 := by decide

/-- R67, R150. -/
theorem test_type_rows_lenient :
    (after (.txnTypeRead 0xABC 0x7F 0x3 false)).txnDec.out
      = ⟨true, 0, ⟨2, 0xABC, 0x7F, 0x0, true, 0x3, false⟩⟩ ∧
    (after (.txnTypeWrite 0xABC 0x7F 0x3 false)).txnDec.out
      = ⟨true, 0, ⟨2, 0xABC, 0x7F, 0x1, true, 0x3, false⟩⟩ ∧
    (after (.txnTypeReserved2 0xABC 0x7F 0x3 false)).txnDec.out
      = ⟨true, 0, ⟨2, 0xABC, 0x7F, 0x2, false, 0x3, false⟩⟩ ∧
    (after (.txnTypeReserved3 0xABC 0x7F 0x3 false)).txnDec.out
      = ⟨true, 0, ⟨2, 0xABC, 0x7F, 0x3, false, 0x3, false⟩⟩ ∧
    (after (.txnTypeReserved4 0xABC 0x7F 0x3 false)).txnDec.out
      = ⟨true, 0, ⟨2, 0xABC, 0x7F, 0x4, false, 0x3, false⟩⟩ ∧
    (after (.txnTypeReserved5 0xABC 0x7F 0x3 false)).txnDec.out
      = ⟨true, 0, ⟨2, 0xABC, 0x7F, 0x5, false, 0x3, false⟩⟩ ∧
    (after (.txnTypeReserved6 0xABC 0x7F 0x3 false)).txnDec.out
      = ⟨true, 0, ⟨2, 0xABC, 0x7F, 0x6, false, 0x3, false⟩⟩ ∧
    (after (.txnTypeReserved7 0xABC 0x7F 0x3 false)).txnDec.out
      = ⟨true, 0, ⟨2, 0xABC, 0x7F, 0x7, false, 0x3, false⟩⟩ ∧
    (after (.txnTypeReserved8 0xABC 0x7F 0x3 false)).txnDec.out
      = ⟨true, 0, ⟨2, 0xABC, 0x7F, 0x8, false, 0x3, false⟩⟩ ∧
    (after (.txnTypeReserved9 0xABC 0x7F 0x3 false)).txnDec.out
      = ⟨true, 0, ⟨2, 0xABC, 0x7F, 0x9, false, 0x3, false⟩⟩ ∧
    (after (.txnTypeReservedA 0xABC 0x7F 0x3 false)).txnDec.out
      = ⟨true, 0, ⟨2, 0xABC, 0x7F, 0xA, false, 0x3, false⟩⟩ ∧
    (after (.txnTypeReservedB 0xABC 0x7F 0x3 false)).txnDec.out
      = ⟨true, 0, ⟨2, 0xABC, 0x7F, 0xB, false, 0x3, false⟩⟩ ∧
    (after (.txnTypeReservedC 0xABC 0x7F 0x3 false)).txnDec.out
      = ⟨true, 0, ⟨2, 0xABC, 0x7F, 0xC, false, 0x3, false⟩⟩ ∧
    (after (.txnTypeReservedD 0xABC 0x7F 0x3 false)).txnDec.out
      = ⟨true, 0, ⟨2, 0xABC, 0x7F, 0xD, false, 0x3, false⟩⟩ ∧
    (after (.txnTypeReservedE 0xABC 0x7F 0x3 false)).txnDec.out
      = ⟨true, 0, ⟨2, 0xABC, 0x7F, 0xE, false, 0x3, false⟩⟩ ∧
    (after (.txnTypeReservedF 0xABC 0x7F 0x3 false)).txnDec.out
      = ⟨true, 0, ⟨2, 0xABC, 0x7F, 0xF, false, 0x3, false⟩⟩ := by decide

/-- R67, R150 (D10, D11). -/
theorem test_type_rows_strict :
    (after (.txnTypeRead 0xABC 0x04 0x5 true)).txnDec.out.err = 0 ∧
    (after (.txnTypeWrite 0xABC 0x04 0x5 true)).txnDec.out.err = 0 ∧
    (after (.txnTypeReserved2 0xABC 0x04 0x5 true)).txnDec.out.err = 5 ∧
    (after (.txnTypeReserved3 0xABC 0x04 0x5 true)).txnDec.out.err = 5 ∧
    (after (.txnTypeReserved4 0xABC 0x04 0x5 true)).txnDec.out.err = 5 ∧
    (after (.txnTypeReserved5 0xABC 0x04 0x5 true)).txnDec.out.err = 5 ∧
    (after (.txnTypeReserved6 0xABC 0x04 0x5 true)).txnDec.out.err = 5 ∧
    (after (.txnTypeReserved7 0xABC 0x04 0x5 true)).txnDec.out.err = 5 ∧
    (after (.txnTypeReserved8 0xABC 0x04 0x5 true)).txnDec.out.err = 5 ∧
    (after (.txnTypeReserved9 0xABC 0x04 0x5 true)).txnDec.out.err = 5 ∧
    (after (.txnTypeReservedA 0xABC 0x04 0x5 true)).txnDec.out.err = 5 ∧
    (after (.txnTypeReservedB 0xABC 0x04 0x5 true)).txnDec.out.err = 5 ∧
    (after (.txnTypeReservedC 0xABC 0x04 0x5 true)).txnDec.out.err = 5 ∧
    (after (.txnTypeReservedD 0xABC 0x04 0x5 true)).txnDec.out.err = 5 ∧
    (after (.txnTypeReservedE 0xABC 0x04 0x5 true)).txnDec.out.err = 5 ∧
    (after (.txnTypeReservedF 0xABC 0x04 0x5 true)).txnDec.out.err = 5 := by decide

/-- R68, R150. -/
theorem test_info_rows_lenient :
    (after (.txnInfoRequestSuccess 0xABC 0x7F 0x8 false)).txnDec.out
      = ⟨true, 0, ⟨2, 0xABC, 0x7F, 0x8, false, 0x0, true⟩⟩ ∧
    (after (.txnInfoBadHeader 0xABC 0x7F 0x8 false)).txnDec.out
      = ⟨true, 0, ⟨2, 0xABC, 0x7F, 0x8, false, 0x1, true⟩⟩ ∧
    (after (.txnInfoReserved2 0xABC 0x7F 0x8 false)).txnDec.out
      = ⟨true, 0, ⟨2, 0xABC, 0x7F, 0x8, false, 0x2, false⟩⟩ ∧
    (after (.txnInfoReserved3 0xABC 0x7F 0x8 false)).txnDec.out
      = ⟨true, 0, ⟨2, 0xABC, 0x7F, 0x8, false, 0x3, false⟩⟩ ∧
    (after (.txnInfoReadBusError 0xABC 0x7F 0x8 false)).txnDec.out
      = ⟨true, 0, ⟨2, 0xABC, 0x7F, 0x8, false, 0x4, true⟩⟩ ∧
    (after (.txnInfoWriteBusError 0xABC 0x7F 0x8 false)).txnDec.out
      = ⟨true, 0, ⟨2, 0xABC, 0x7F, 0x8, false, 0x5, true⟩⟩ ∧
    (after (.txnInfoReadBusTimeout 0xABC 0x7F 0x8 false)).txnDec.out
      = ⟨true, 0, ⟨2, 0xABC, 0x7F, 0x8, false, 0x6, true⟩⟩ ∧
    (after (.txnInfoWriteBusTimeout 0xABC 0x7F 0x8 false)).txnDec.out
      = ⟨true, 0, ⟨2, 0xABC, 0x7F, 0x8, false, 0x7, true⟩⟩ ∧
    (after (.txnInfoReserved8 0xABC 0x7F 0x8 false)).txnDec.out
      = ⟨true, 0, ⟨2, 0xABC, 0x7F, 0x8, false, 0x8, false⟩⟩ ∧
    (after (.txnInfoReserved9 0xABC 0x7F 0x8 false)).txnDec.out
      = ⟨true, 0, ⟨2, 0xABC, 0x7F, 0x8, false, 0x9, false⟩⟩ ∧
    (after (.txnInfoReservedA 0xABC 0x7F 0x8 false)).txnDec.out
      = ⟨true, 0, ⟨2, 0xABC, 0x7F, 0x8, false, 0xA, false⟩⟩ ∧
    (after (.txnInfoReservedB 0xABC 0x7F 0x8 false)).txnDec.out
      = ⟨true, 0, ⟨2, 0xABC, 0x7F, 0x8, false, 0xB, false⟩⟩ ∧
    (after (.txnInfoReservedC 0xABC 0x7F 0x8 false)).txnDec.out
      = ⟨true, 0, ⟨2, 0xABC, 0x7F, 0x8, false, 0xC, false⟩⟩ ∧
    (after (.txnInfoReservedD 0xABC 0x7F 0x8 false)).txnDec.out
      = ⟨true, 0, ⟨2, 0xABC, 0x7F, 0x8, false, 0xD, false⟩⟩ ∧
    (after (.txnInfoReservedE 0xABC 0x7F 0x8 false)).txnDec.out
      = ⟨true, 0, ⟨2, 0xABC, 0x7F, 0x8, false, 0xE, false⟩⟩ ∧
    (after (.txnInfoUnknownRequest 0xABC 0x7F 0x8 false)).txnDec.out
      = ⟨true, 0, ⟨2, 0xABC, 0x7F, 0x8, false, 0xF, true⟩⟩ := by decide

/-- R68, R150. -/
theorem test_info_rows_strict :
    (after (.txnInfoRequestSuccess 0xABC 0x04 0x1 true)).txnDec.out.err = 0 ∧
    (after (.txnInfoBadHeader 0xABC 0x04 0x1 true)).txnDec.out.err = 0 ∧
    (after (.txnInfoReserved2 0xABC 0x04 0x1 true)).txnDec.out.err = 5 ∧
    (after (.txnInfoReserved3 0xABC 0x04 0x1 true)).txnDec.out.err = 5 ∧
    (after (.txnInfoReadBusError 0xABC 0x04 0x1 true)).txnDec.out.err = 0 ∧
    (after (.txnInfoWriteBusError 0xABC 0x04 0x1 true)).txnDec.out.err = 0 ∧
    (after (.txnInfoReadBusTimeout 0xABC 0x04 0x1 true)).txnDec.out.err = 0 ∧
    (after (.txnInfoWriteBusTimeout 0xABC 0x04 0x1 true)).txnDec.out.err = 0 ∧
    (after (.txnInfoReserved8 0xABC 0x04 0x1 true)).txnDec.out.err = 5 ∧
    (after (.txnInfoReserved9 0xABC 0x04 0x1 true)).txnDec.out.err = 5 ∧
    (after (.txnInfoReservedA 0xABC 0x04 0x1 true)).txnDec.out.err = 5 ∧
    (after (.txnInfoReservedB 0xABC 0x04 0x1 true)).txnDec.out.err = 5 ∧
    (after (.txnInfoReservedC 0xABC 0x04 0x1 true)).txnDec.out.err = 5 ∧
    (after (.txnInfoReservedD 0xABC 0x04 0x1 true)).txnDec.out.err = 5 ∧
    (after (.txnInfoReservedE 0xABC 0x04 0x1 true)).txnDec.out.err = 5 ∧
    (after (.txnInfoUnknownRequest 0xABC 0x04 0x1 true)).txnDec.out.err = 0 := by decide

/-! The caller's helpers and composites. -/

/-- V8. -/
theorem test_bswap32 :
    bswap32 0x201234F1 = 0xF1341220 ∧ bswap32 0x20010410 = 0x10040120 ∧
      bswap32 0x2ABC0022 = 0x2200BC2A := by decide

/-- R75: a swapped header is recovered once; no other error is retried. -/
theorem test_pktDecodeRetry :
    pktDecodeRetry Config.decided 0xF1341220 true = ⟨.ok ⟨2, 0x1234, 0xF, .status⟩, true⟩ ∧
      pktDecodeRetry Config.decided 0x201234F1 true = ⟨.ok ⟨2, 0x1234, 0xF, .status⟩, false⟩ ∧
      pktDecodeRetry Config.decided 0x00000000 true = ⟨.error .protocolVersionMismatch, false⟩ := by decide

/-- Programs 3 and 4. -/
theorem test_builders :
    buildPkt Config.decided (0x1234 : HostValue) 0 = .ok 0x201234F0 ∧
      buildTxn (0xABC : HostValue) 0 1 5 = .ok 0x2ABC0015 ∧
      buildPkt Config.decided (0x10000 : HostValue) 0 = .error .invalidField ∧
      buildPkt Config.decided (0x42 : HostValue) 3 = .error .invalidField ∧
      buildTxn (5 : HostValue) 256 0 0 = .error .invalidField := by decide

/-! ## Steps. -/

theorem test_reset_presents_nothing : step State.reset = .refused .nothingPresented := by rfl

theorem test_step_refuses_half_a_word :
    step (State.reset.setRequests [⟨.pktDecode, false, 16, 0⟩])
      = .refused (.illFormedRequest .partialOperand) := by rfl

/-- One row of each format through the host's entry. -/
theorem test_decodeTableWord :
    decodeTableWord 32 0x200000F2 = some (.pktResend 0 0 false) ∧
      decodeTableWord 32 0x20010410 = some (.txnTypeWrite 0x001 0x04 0x0 false) ∧
      decodeTableWord 32 0x20000006 = some (.txnInfoReadBusTimeout 0 0 0 false) ∧
      decodeTableWord 8 0x2 = some (.ptypeKnown 2) ∧
      decodeTableWord 40 0x12341 = some (.mkPkt 0x1234 1) ∧
      decodeTableWord 128 0 = some (.mkTxn 0 0 0 0) ∧
      decodeTableWord 32 0x100000000 = none := by decide

theorem test_step_of_fetched_word :
    step (State.reset.withFetchWord 32 0x200000F2) = exec (.pktResend 0 0 false) State.reset := by rfl

/-! ## Witnesses: for every statement with hypotheses, values that meet them all. -/

/-- A lenient look at a word the decoder rejects, from power-up. -/
def presented : State := State.reset.setRequests [⟨.pktDecode, true, 32, 0xF00000F3⟩]

theorem test_reset_settled : State.reset.Settled := by constructor <;> decide

theorem test_presented_settled : presented.Settled := by constructor <;> decide

theorem test_presented_whole : presented.NoPartialHeader := by
  constructor <;> first | exact .intro ⟨.protocolVersionMismatch, rfl⟩ rfl | rfl

theorem test_presented_codes : presented.CodesLegal := by constructor <;> decide

/-- FailureDoesNotTouchTheNextEvaluation: one failing evaluation in every group that can fail. -/
theorem test_witness_failed_evaluations :
    (∃ t, exec (.pktDecode 0 false) State.reset = .next t ∧ t.FailedOn (Group.ofInstr (.pktDecode 0 false)))
    ∧ (∃ t, exec (.pktEncode 0 3) State.reset = .next t ∧ t.FailedOn (Group.ofInstr (.pktEncode 0 3)))
    ∧ (∃ t, exec (.txnDecode 0 false) State.reset = .next t ∧ t.FailedOn (Group.ofInstr (.txnDecode 0 false)))
    ∧ (∃ t, exec (.valPktWord 0 false) State.reset = .next t ∧ t.FailedOn (Group.ofInstr (.valPktWord 0 false)))
    ∧ (∃ t, exec (.valTxnWord 0 false) State.reset = .next t ∧ t.FailedOn (Group.ofInstr (.valTxnWord 0 false)))
    ∧ (∃ t, exec (.mkPkt 0x10000 0) State.reset = .next t ∧ t.FailedOn (Group.ofInstr (.mkPkt 0x10000 0)))
    ∧ (∃ t, exec (.mkTxn 0x1000 0 0 0) State.reset = .next t ∧
        t.FailedOn (Group.ofInstr (.mkTxn 0x1000 0 0 0))) := by
  refine ⟨⟨_, rfl, ?_⟩, ⟨_, rfl, ?_⟩, ⟨_, rfl, ?_⟩, ⟨_, rfl, ?_⟩, ⟨_, rfl, ?_⟩, ⟨_, rfl, ?_⟩, ⟨_, rfl, ?_⟩⟩ <;>
    simp only [State.FailedOn, Group.ofInstr] <;> decide

/-- EvaluationsOnDifferentGroupsCommute; the frame of EvaluationsArePureFunctionsOfTheirInputs. -/
theorem test_witness_different_groups :
    Group.ofInstr (.pktDecode 0 false) ≠ Group.ofInstr (.valPktWord 0 false) ∧
      (∃ t, exec (.pktDecode 0 false) State.reset = .next t) := ⟨by decide, _, rfl⟩

/-- StepKeepsOutputsSettled, StepKeepsNoPartialHeader, StepKeepsCodesLegal,
SettledStatesShowNoPartialHeader: a step of a settled state in which a decode fails. -/
theorem test_witness_step_of_a_settled_state :
    presented.Settled ∧ presented.NoPartialHeader ∧ presented.CodesLegal ∧
      ∃ t, step presented = .next t ∧ t.pktDec.out.err = 4 :=
  ⟨test_presented_settled, test_presented_whole, test_presented_codes, _, rfl, by decide⟩

/-- StepRunsTheDecodedInstruction, its three clauses. -/
theorem test_witness_step_clauses :
    presented.requests = [⟨.pktDecode, true, 32, 0xF00000F3⟩] ∧
      decode ⟨.pktDecode, true, 32, 0xF00000F3⟩ = .ok (.pktDecode 0xF00000F3 true) ∧
      State.reset.requests = [] ∧
      decode ⟨.pktDecode, true, 16, 0⟩ = .error .partialOperand := by decide

/-- EncodeInvertsDecode at both ends of the operand; RowWordsHaveTheTablesFixedBits for a code row and an
encoder; FetchedTableWordRunsNext. -/
theorem test_witness_decoded_requests :
    decode ⟨.mkTxn, false, 128, 0#128⟩ = .ok (.mkTxn 0 0 0 0) ∧
      decode ⟨.mkTxn, false, 128, BitVec.allOnes 128⟩
        = .ok (.mkTxn 0xFFFFFFFF 0xFFFFFFFF 0xFFFFFFFF 0xFFFFFFFF) ∧
      Instr.tableMatchMask (.pktReservedF 0 0 false) = some (0x200000FF, 0x200000FF) ∧
      Instr.tableMatchMask (.txnEncode 0 0 0 0) = some (0x20000000, 0xF0000000) ∧
      decodeTableWord 32 0x200000F0 = some (.pktControl 0 0 false) := by decide

/-- DecodersFailExactlyWithTheWordChecks: the two evaluations one after the other. -/
theorem test_witness_check_then_decode :
    (∃ t u, exec (.valPktWord 0 false) State.reset = .next t ∧ exec (.pktDecode 0 false) t = .next u) ∧
      (∃ t u, exec (.valTxnWord 0 false) State.reset = .next t ∧ exec (.txnDecode 0 false) t = .next u) :=
  ⟨⟨_, _, rfl, rfl⟩, ⟨_, _, rfl, rfl⟩⟩

/-- WordsNoModeAccepts, clause by clause. -/
theorem test_witness_rejected_words :
    (0xDFFFFFFF#32).getLsbD 29 = false ∧
      ((0x200000E0#32).getLsbD 29 = true ∧ (0x200000E0#32).extractLsb' 4 4 ≠ 0xF) ∧
      (0x30010410#32).extractLsb' 28 4 ≠ 0x2 ∧
      ((0x200000F0#32).getLsbD 29 = true ∧ (0x200000F0#32).extractLsb' 4 4 = 0xF) ∧
      (0x2FFFFFFF#32).extractLsb' 28 4 = 0x2 := by decide

/-- DecodedPacketFieldsAreTheWordsSlices, DecodedHeadersAreWellFormed, PacketMasksPartitionTheWord,
PacketDecodeOfEncode, PacketEncodeOfDecode: PID_LSB at both ends; a header that can be encoded, one from a
strict decode and one that cannot. -/
theorem test_witness_packet_codec :
    (idAt 8).wf = true ∧ (idAt 12).wf = true ∧
      decodePacketHeader (idAt 8) 0x300001F0 false = .ok ⟨2, 1, 0xF, .control⟩ ∧
      decodePacketHeader (idAt 12) 0x2FFFF0F2 true = .ok ⟨2, 0xFFFF, 0xF, .resend⟩ ∧
      decodePacketHeader (idAt 12) 0x200000F3 false = .ok ⟨2, 0, 0xF, .unknown 3⟩ ∧
      (PacketHeader.mk 2 1 0xF .control).validForEncoding = true ∧
      (PacketHeader.mk 2 0 0xF (.unknown 3)).validForEncoding = false ∧
      (0x0 : Nibble).toNat ≤ 2 ∧ (0x2 : Nibble).toNat ≤ 2 := by decide

/-- DecodedHeadersAreWellFormed, TransactionEncodeOfDecode. -/
theorem test_witness_transaction_codec :
    decodeTransactionHeader Config.decided 0x20010412 false
        = .ok ⟨2, 0x001, 0x04, .write, .unknown 2⟩ ∧
      decodeTransactionHeader Config.decided 0x2001040F true
        = .ok ⟨2, 0x001, 0x04, .read, .unknownRequest⟩ ∧
      transactionWord 0xFFF 0xFF 0xF 0xF = transactionWord 0xFFF 0xFF 0xF 0xF ∧
      (0x2FFFFFFF#32).extractLsb' 28 4 = 0x2 := by decide

/-- ReservedBitsDoNotMatterLeniently: two words that differ in every reserved bit. -/
theorem test_witness_reserved_bits :
    Config.decided.wf = true ∧
      (0xFF0000F0#32) &&& ~~~Config.decided.pktReservedMask
        = (0x200000F0#32) &&& ~~~Config.decided.pktReservedMask := by decide

/-- StrictRefinesLenientOnPackets, clause by clause: an error of both modes, a header of both, and the two
strict errors on words lenient mode accepts. -/
theorem test_witness_strict_packets :
    decodePacketHeader Config.decided 0 false = .error .protocolVersionMismatch ∧
      decodePacketHeader Config.decided 0x200000F2 true = .ok ⟨2, 0, 0xF, .resend⟩ ∧
      (decodePacketHeader Config.decided 0x200000F3 false = .ok ⟨2, 0, 0xF, .unknown 3⟩ ∧
        decodePacketHeader Config.decided 0x200000F3 true = .error .unknownPacketType) ∧
      (decodePacketHeader Config.decided 0x210000F2 false = .ok ⟨2, 0, 0xF, .resend⟩ ∧
        decodePacketHeader Config.decided 0x210000F2 true = .error .reservedBitSet) ∧
      2 < ((0x200000F3#32).extractLsb' 0 4).toNat ∧
      (0x210000F2#32) &&& Config.decided.pktReservedMask ≠ 0 := by decide

/-- StrictRefinesLenientOnTransactions, clause by clause. -/
theorem test_witness_strict_transactions :
    decodeTransactionHeader Config.decided 0 false = .error .protocolVersionMismatch ∧
      decodeTransactionHeader Config.decided 0x20000000 true = .ok ⟨2, 0, 0, .read, .requestSuccess⟩ ∧
      (0x20010420#32).extractLsb' 28 4 = 0x2 ∧
      ((0x20010420#32).extractLsb' 4 4 ≠ Config.decided.typeRead ∧
        (0x20010420#32).extractLsb' 4 4 ≠ Config.decided.typeWrite) ∧
      isKnownInfo ((0x20010412#32).extractLsb' 0 4) = false := by decide

/-- PacketEncodeIsInjectiveOntoCanonicalWords and RetryRecoversEitherByteOrder: an encoded word, and both
sides of the retry. -/
theorem test_witness_encoded_words :
    encodePacketHeader Config.decided 0xFFFF 2 = .ok 0x20FFFFF2 ∧
      (0x20FFFFF2#32) &&& 0xFF0000F0#32 = 0x200000F0 ∧ ((0x20FFFFF2#32).extractLsb' 0 4).toNat ≤ 2 ∧
      decodePacketHeader Config.decided 0 true ≠ .error .byteOrderMismatch ∧
      decodePacketHeader Config.decided 0xF2FFFF20 true = .error .byteOrderMismatch := by decide

/-- EnumerationPicturesAreLossless: well-formed tags at the ends of the reserved ranges. -/
theorem test_witness_tags :
    (PacketType.unknown 3).wf = true ∧ (PacketType.unknown 0xF).wf = true ∧ PacketType.resend.wf = true ∧
      (TypeId.unknown 2).wf Config.decided = true ∧ TypeId.write.wf Config.decided = true ∧
      Config.decided.wf = true ∧ (InfoCode.unknown 2).wf = true ∧ (InfoCode.unknown 0xE).wf = true ∧
      InfoCode.unknownRequest.wf = true := by decide

/-- PacketWordsCarryTheirFieldsAtEveryPlace, OkIsNoErrorForEveryCodes: admissible configurations other than
the decided one, and a word with every reserved bit set. -/
theorem test_witness_other_configurations :
    (idAt 9).wf = true ∧ (idAt 12).wf = true ∧
      ((0xFFFFFFFF#32).getLsbD 29 = true ∧ (0xFFFFFFFF#32).extractLsb' 4 4 = 0xF) ∧
      ({ Config.decided with
          hostW := 17, errorCodes := ⟨6, 5, 4, 3, 2, 1⟩, outcomeCodes := ⟨3, 2, 1⟩ } : Config).wf = true := by
  decide

/-- InfoKnownIsOneForTheSevenNamedCodes: an unknown code. TransactionDecodeOfEncode: both codes known at the ends of the known set, and one of each unknown. -/
theorem test_witness_known_codes :
    isKnownInfo 0xE = false ∧
    (typeIdIsKnown Config.decided 0 = true ∧ infoCodeIsKnown 0xF = true) ∧
      ¬(typeIdIsKnown Config.decided 2 = true ∧ infoCodeIsKnown 0 = true) ∧
      ¬(typeIdIsKnown Config.decided 1 = true ∧ infoCodeIsKnown 0xE = true) := by decide

/-- ConstructorsDependOnTheHostValueOnly: one value at two widths, above the bound and on it. -/
theorem test_witness_host_widths :
    (0x10000#17).toNat = (0x10000#64).toNat ∧ (0xFFFF#17).toNat = (0xFFFF#64).toNat := by decide

/-- SwappedCanonicalHeaderIsAByteOrderMismatch, SwappedTransactionIsNotDetected: its two clauses. -/
theorem test_witness_swapped_words :
    ((0x201234F2#32).extractLsb' 24 8 = 0x20 ∧ (0x201234F2#32).extractLsb' 4 4 = 0xF ∧
        ((0x201234F2#32).extractLsb' 0 4).toNat ≤ 2) ∧
      (0x20010410#32).extractLsb' 4 4 ≠ 0x2 ∧ (0x2ABC0022#32).extractLsb' 4 4 = 0x2 := by decide

/-- BuildersAnswerOrRejectAndRoundTrip: on both sides of every bound. -/
theorem test_witness_builder_bounds :
    (0xFFFF : HostValue).toNat ≤ 0xFFFF ∧ 0xFFFF < (0x10000 : HostValue).toNat ∧
      (0x2 : Nibble).toNat ≤ 2 ∧ 2 < (0x3 : Nibble).toNat ∧
      (0xFFF : HostValue).toNat ≤ 0xFFF ∧ 0xFFF < (0x1000 : HostValue).toNat ∧
      (0xFF : HostValue).toNat ≤ 0xFF ∧ 0xFF < (0x100 : HostValue).toNat ∧
      (0xF : HostValue).toNat ≤ 0xF ∧ 0xF < (0x10 : HostValue).toNat := by decide

end Sys2Proof.Tests
end

section
/-! SUPPORT. Driving one group of ports: the wires it takes do not depend on what stood there before, a
second drive with the same values changes nothing, and no other wire moves (40_header_validator.md R111). -/

namespace Sys2Proof.Machine

/-- The wires of the driven group do not depend on the state before. -/
theorem Driven.apply_agreeOn_group (d : Driven) (s t : State) :
    (d.apply s).AgreeOn d.group (d.apply t) := by
  cases d <;> rfl

@[simp] theorem Driven.apply_apply (d : Driven) (s : State) : d.apply (d.apply s) = d.apply s := by
  cases d <;> rfl

@[simp] theorem Driven.apply_requests (d : Driven) (s : State) : (d.apply s).requests = s.requests := by
  cases d <;> rfl

/-- The frame of a drive: a group that is not the driven one keeps its wires. -/
theorem Driven.apply_agreeOn_other (d : Driven) (s : State) {g : Group} (hg : g ≠ d.group) :
    (d.apply s).AgreeOn g s := by
  cases d <;> cases g <;> try rfl
  -- What is left is the driven group itself, which `hg` excludes.
  all_goals exact absurd rfl hg

/-- Settles O20: an evaluation drives its own group with values that the instruction alone fixes. -/
theorem evaluationsArePureFunctionsOfTheirInputs :
    Obligations.EvaluationsArePureFunctionsOfTheirInputs := by
  intro i s s'
  obtain ⟨d, hgroup, -, hexec⟩ := exec_drives i
  refine ⟨d.apply s, d.apply s', hexec s, hexec s', ?_, ?_, d.apply_requests s, ?_⟩
  · rw [← hgroup]
    exact d.apply_agreeOn_group s s'
  · rw [hexec, d.apply_apply]
  · intro g hg
    rw [← hgroup] at hg
    exact d.apply_agreeOn_other s hg

end Sys2Proof.Machine
end

section
/-! SUPPORT. The two pictures of an enumeration, a tag and a raw nibble with its known flag (decision D13):
the tag is unknown of the nibble exactly where the flag is 0, and an unknown tag is a proper one exactly
where the flag of its raw nibble is 0. The way from tag to nibble and back follows from the two. -/

namespace Sys2Proof.Machine

theorem packetTypeOfNibble_eq_unknown_iff (x : Nibble) :
    packetTypeOfNibble x = .unknown x ↔ packetTypeIsKnown x = false := by
  revert x; decide

theorem infoCodeOfNibble_eq_unknown_iff (x : Nibble) :
    infoCodeOfNibble x = .unknown x ↔ infoCodeIsKnown x = false := by
  revert x; decide

theorem typeIdOfNibble_eq_unknown_iff (c : Config) (x : Nibble) :
    typeIdOfNibble c x = .unknown x ↔ typeIdIsKnown c x = false := by
  rw [← Bool.not_eq_true, typeIdIsKnown_iff, not_or]
  unfold typeIdOfNibble
  split
  case isTrue hread => simp [hread]
  case isFalse hread =>
    split
    case isTrue hwrite => simp [hwrite]
    case isFalse hwrite => simp [hread, hwrite]

theorem packetType_wf_unknown_iff (x : Nibble) :
    (PacketType.unknown x).wf = true ↔ packetTypeIsKnown x = false := by
  revert x; decide

theorem infoCode_wf_unknown_iff (x : Nibble) :
    (InfoCode.unknown x).wf = true ↔ infoCodeIsKnown x = false := by
  revert x; decide

theorem typeId_wf_unknown_iff (c : Config) (x : Nibble) :
    (TypeId.unknown x).wf c = true ↔ typeIdIsKnown c x = false := by
  simp [TypeId.wf, typeIdIsKnown]

/-- Read and Write have different numbers (decision D11). -/
theorem typeRead_ne_typeWrite {c : Config} (h : c.wf = true) : c.typeRead ≠ c.typeWrite := by
  simp only [Config.wf, Bool.and_eq_true, bne_iff_ne] at h
  obtain ⟨⟨⟨⟨-, hne⟩, -⟩, -⟩, -⟩ := h
  exact hne

theorem packetTypeOfNibble_nibble {t : PacketType} (ht : t.wf = true) :
    packetTypeOfNibble (packetTypeNibble t) = t := by
  cases t with
  | unknown raw =>
    exact (packetTypeOfNibble_eq_unknown_iff raw).2 ((packetType_wf_unknown_iff raw).1 ht)
  | control | status | resend => rfl

theorem infoCodeOfNibble_nibble {i : InfoCode} (hi : i.wf = true) :
    infoCodeOfNibble (infoCodeNibble i) = i := by
  cases i with
  | unknown raw => exact (infoCodeOfNibble_eq_unknown_iff raw).2 ((infoCode_wf_unknown_iff raw).1 hi)
  | requestSuccess | badHeader | readBusError | writeBusError | readBusTimeout | writeBusTimeout
  | unknownRequest => rfl

theorem typeIdOfNibble_nibble {c : Config} (h : c.wf = true) {y : TypeId} (hy : y.wf c = true) :
    typeIdOfNibble c (typeIdNibble c y) = y := by
  cases y with
  | read => simp [typeIdNibble, typeIdOfNibble]
  | write => simp [typeIdNibble, typeIdOfNibble, (typeRead_ne_typeWrite h).symm]
  | unknown raw =>
    exact (typeIdOfNibble_eq_unknown_iff c raw).2 ((typeId_wf_unknown_iff c raw).1 hy)

/-- Settles O41: nibble to tag and back by the laws of the flags, tag to nibble and back by cases on the
tag, where an unknown one is proper only if its nibble is not known. -/
theorem enumerationPicturesAreLossless : Obligations.EnumerationPicturesAreLossless :=
  ⟨fun c x =>
      ⟨packetTypeNibble_ofNibble x, typeIdNibble_ofNibble c x, infoCodeNibble_ofNibble x,
        packetTypeOfNibble_eq_unknown_iff x, typeIdOfNibble_eq_unknown_iff c x,
        infoCodeOfNibble_eq_unknown_iff x⟩,
    fun _ => packetTypeOfNibble_nibble, fun _ _ h => typeIdOfNibble_nibble h,
    fun _ => infoCodeOfNibble_nibble⟩

end Sys2Proof.Machine
end

section
/-! SUPPORT. `ok` and `err` of a reported result (00_scope.md R15, decision D9). -/

namespace Sys2Proof.Machine

/-- The code 0 is no error's, so a report has it exactly on success. -/
theorem report_ok_iff_err_eq_zero {F A : Type} {c : Config} (h : c.wf = true) (zero : F) (view : A → F)
    (r : Except ErrorKind A) :
    (report c zero view r).ok = true ↔ (report c zero view r).err = 0 := by
  cases r with
  | ok a => simp
  | error e => simpa using errCode_ne_zero h e

/-- Settles O60: five of the six groups report a result, and TXN_ENCODE has no error. -/
theorem okIsNoErrorForEveryCodes : Obligations.OkIsNoErrorForEveryCodes := fun _ h =>
  ⟨fun _ => report_ok_iff_err_eq_zero h .., fun _ => report_ok_iff_err_eq_zero h ..,
    fun _ => report_ok_iff_err_eq_zero h .., fun _ => iff_of_true rfl rfl,
    fun _ => report_ok_iff_err_eq_zero h .., fun _ => report_ok_iff_err_eq_zero h ..⟩

end Sys2Proof.Machine
end

section
/-! SUPPORT. The invariant that every output is settled (10_state.md R31, R35): power-up has it, and a step
that goes on is one settled drive of a group, which leaves every other group as it was. -/

namespace Sys2Proof.Machine

/-- Everything a step that goes on can do: the caller's list gets shorter and one group is driven with
settled values. -/
theorem step_next_drives {s t : State} (h : step s = .next t) :
    ∃ (d : Driven) (rest : List Request), d.Settled ∧ t = d.apply (s.setRequests rest) := by
  obtain ⟨-, rest, i, -, -, hexec⟩ := step_next h
  obtain ⟨d, -, hd, hdrives⟩ := exec_drives i
  rw [hdrives, Host.Outcome.next.injEq] at hexec
  exact ⟨d, rest, hd, hexec.symm⟩

/-- The caller's list is no wire of the hardware. -/
theorem State.Settled.setRequests {s : State} (hs : s.Settled) (l : List Request) :
    (s.setRequests l).Settled := { hs with }

/-- A settled drive settles its own group and leaves the others settled. -/
theorem Driven.Settled.apply {d : Driven} (hd : d.Settled) {s : State} (hs : s.Settled) :
    (d.apply s).Settled := by
  cases d with
  | pktDec => exact { hs with pktDec := hd }
  | pktEnc => exact { hs with pktEnc := hd }
  | txnDec => exact { hs with txnDec := hd }
  | txnEnc => exact { hs with txnEnc := hd }
  | valPkt => exact { hs with valPkt := hd }
  | valTxn => exact { hs with valTxn := hd }
  | mkPkt => exact { hs with mkPkt := hd }
  | mkTxn => exact { hs with mkTxn := hd }
  | ptype => exact { hs with ptype := hd }
  | tid => exact { hs with tid := hd }
  | info => exact { hs with info := hd }

/-- Settles O23: a step is one settled drive, and a settled drive keeps a settled state settled. -/
theorem stepKeepsOutputsSettled : Obligations.StepKeepsOutputsSettled := by
  intro s s' hs hstep
  obtain ⟨d, rest, hd, rfl⟩ := step_next_drives hstep
  exact hd.apply (hs.setRequests rest)

/-- Settles O24: the rules, run on the zero inputs of each group, give the outputs `State.reset` writes out. -/
theorem resetOutputsAreSettled : Obligations.ResetOutputsAreSettled where
  pktDec := by decide
  pktEnc := by decide
  txnDec := by decide
  txnEnc := by decide
  valPkt := by decide
  valTxn := by decide
  mkPkt := by decide
  mkTxn := by decide
  ptype := by decide
  tid := by decide
  info := by decide

end Sys2Proof.Machine
end

section
/-! SUPPORT. The header records a decoder answers with are those of 10_state.md R32 and R33: the tag of any
nibble is a proper one, and the word checks pin the two constants. -/

namespace Sys2Proof.Machine

theorem packetTypeOfNibble_wf (x : Nibble) : (packetTypeOfNibble x).wf = true := by
  revert x; decide

theorem infoCodeOfNibble_wf (x : Nibble) : (infoCodeOfNibble x).wf = true := by
  revert x; decide

theorem typeIdOfNibble_wf (c : Config) (x : Nibble) : (typeIdOfNibble c x).wf c = true := by
  unfold typeIdOfNibble
  split
  case isTrue => rfl
  case isFalse hread =>
    split
    case isTrue => rfl
    case isFalse hwrite => simp [TypeId.wf, hread, hwrite]

theorem decodePacketHeader_wf {c : Config} {w : Word} {strict : Bool} {h : PacketHeader}
    (hok : decodePacketHeader c w strict = .ok h) : h.wf = true := by
  obtain ⟨e, -, herr⟩ | ⟨-, hdec⟩ := decodePacketHeader_cases c w strict
  · cases herr.symm.trans hok
  · cases hdec.symm.trans hok
    simp [PacketHeader.wf, packetTypeOfNibble_wf]

theorem decodeTransactionHeader_wf {c : Config} {w : Word} {strict : Bool} {h : TransactionHeader}
    (hok : decodeTransactionHeader c w strict = .ok h) : h.wf c = true := by
  obtain ⟨e, -, herr⟩ | ⟨-, hdec⟩ := decodeTransactionHeader_cases c w strict
  · cases herr.symm.trans hok
  · cases hdec.symm.trans hok
    simp [TransactionHeader.wf, typeIdOfNibble_wf, infoCodeOfNibble_wf]

/-- Settles O40: both decoders, in either mode, answer proper records; no admissible value of the
configuration is needed for it. -/
theorem decodedHeadersAreWellFormed : Obligations.DecodedHeadersAreWellFormed :=
  fun _ _ _ _ => ⟨fun _ => decodePacketHeader_wf, fun _ => decodeTransactionHeader_wf⟩

end Sys2Proof.Machine
end

section
/-! SUPPORT. The packet header masks of 10_state.md R25. The four field masks share no bit because the packet
ID lies between the qualifier and the version bit (decision D5); the reserved mask is their complement. -/

namespace Sys2Proof.Machine

/-- The masks of the four fields of a packet header. -/
def pktFieldMasks (c : Config) : List Word :=
  [Config.PKT_VERSION_MASK, c.pktIdMask, Config.PKT_BOQ_MASK, Config.PKT_TYPE_MASK]

theorem pktFieldMasks_pairwise_disjoint {c : Config} (h : c.wf = true) :
    (pktFieldMasks c).Pairwise (fun a b => a &&& b = 0) := by
  rcases pidLsb_cases h with hp | hp | hp | hp | hp <;>
    simp only [pktFieldMasks, Config.pktIdMask, hp] <;> decide

theorem and_pktReservedMask {c : Config} {m : Word} (hm : m ∈ pktFieldMasks c) :
    m &&& c.pktReservedMask = 0 := by
  simp only [pktFieldMasks, List.mem_cons, List.not_mem_nil, or_false] at hm
  ext i hi
  rcases hm with rfl | rfl | rfl | rfl <;> simp +contextual [Config.pktReservedMask]

theorem pktFieldMasks_or_reservedMask (c : Config) :
    Config.PKT_VERSION_MASK ||| c.pktIdMask ||| Config.PKT_BOQ_MASK ||| Config.PKT_TYPE_MASK
      ||| c.pktReservedMask = BitVec.allOnes 32 :=
  BitVec.or_not_self _

/-- Settles O42: the field masks are disjoint, and the reserved mask is the complement of their OR. -/
theorem packetMasksPartitionTheWord : Obligations.PacketMasksPartitionTheWord := by
  refine ⟨fun c h => ⟨pktFieldMasks_or_reservedMask c, ?_⟩, decided_reservedMask⟩
  have hreserved : ∀ m ∈ pktFieldMasks c, ∀ r ∈ [c.pktReservedMask], m &&& r = 0 := by
    simpa using fun _ => and_pktReservedMask
  exact List.pairwise_append.2
    ⟨pktFieldMasks_pairwise_disjoint h, List.pairwise_singleton .., hreserved⟩

end Sys2Proof.Machine
end

section
/-! SUPPORT. Evaluations on different groups (20_memory.md R52): agreement of two states group by group is
equality, and a drive keeps it, so two drives of different groups can be exchanged. -/

namespace Sys2Proof.Machine

theorem State.AgreeOn.symm {g : Group} {s t : State} (h : s.AgreeOn g t) : t.AgreeOn g s := by
  cases g <;> exact Eq.symm h

theorem State.AgreeOn.trans {g : Group} {s t u : State} (hst : s.AgreeOn g t) (htu : t.AgreeOn g u) :
    s.AgreeOn g u := by
  cases g <;> exact Eq.trans hst htu

/-- The eleven groups and the caller's list are the whole state. -/
theorem State.eq_of_agreeOn {s t : State} (hg : ∀ g, s.AgreeOn g t) (hr : s.requests = t.requests) :
    s = t := by
  obtain ⟨⟩ := s
  obtain ⟨⟩ := t
  congr
  exacts [hg .pktDec, hg .pktEnc, hg .txnDec, hg .txnEnc, hg .valPkt, hg .valTxn, hg .mkPkt, hg .mkTxn,
    hg .ptype, hg .tid, hg .info]

/-- States that agree on a group agree on it after the same drive, of that group or of another. -/
theorem Driven.apply_agreeOn_apply (d : Driven) {g : Group} {s t : State} (h : s.AgreeOn g t) :
    (d.apply s).AgreeOn g (d.apply t) := by
  by_cases hg : g = d.group
  · subst hg
    exact d.apply_agreeOn_group s t
  · exact ((d.apply_agreeOn_other s hg).trans h).trans (d.apply_agreeOn_other t hg).symm

theorem Driven.apply_comm {d e : Driven} (hne : d.group ≠ e.group) (s : State) :
    e.apply (d.apply s) = d.apply (e.apply s) := by
  refine State.eq_of_agreeOn (fun g => ?_) (by simp)
  by_cases hg : g = d.group
  · -- Both sides show what `d` drives.
    subst hg
    exact (e.apply_agreeOn_other _ hne).trans (d.apply_agreeOn_group s _)
  · -- `d` leaves this group alone on both sides.
    exact (e.apply_agreeOn_apply (d.apply_agreeOn_other s hg)).trans (d.apply_agreeOn_other _ hg).symm

/-- Settles O21: each evaluation is a drive of its own group, and such drives commute. -/
theorem evaluationsOnDifferentGroupsCommute : Obligations.EvaluationsOnDifferentGroupsCommute := by
  intro i j s hne
  obtain ⟨d, hd, -, hi⟩ := exec_drives i
  obtain ⟨e, he, -, hj⟩ := exec_drives j
  rw [← hd, ← he] at hne
  refine ⟨d.apply s, e.apply s, e.apply (d.apply s), hi s, hj _, hj s, ?_⟩
  rw [hi, Driven.apply_comm hne]

end Sys2Proof.Machine
end

section
/-! SUPPORT. BSWAP32 in bit slices (20_memory.md R46): a slice inside byte `i` of the swapped word is the
same slice of byte `3 - i` of the word. What the decoders make of a swapped word (R47, R48) follows from the
slices their checks read. -/

namespace Sys2Proof.Machine

/-- Bit `k % 8` of byte `k / 8` comes from the byte with the opposite place. -/
theorem bswap32_getLsbD (w : Word) {k : Nat} (hk : k < 32) :
    (bswap32 w).getLsbD k = w.getLsbD (8 * (3 - k / 8) + k % 8) := by
  simp only [bswap32, BitVec.getLsbD_append, BitVec.getLsbD_extractLsb']
  interval_cases k <;> simp

/-- `n` bits from bit `j` of byte `i` on, inside that byte. -/
theorem bswap32_slice (w : Word) (i j n : Nat) (hi : i ≤ 3) (hjn : j + n ≤ 8) :
    (bswap32 w).extractLsb' (8 * i + j) n = w.extractLsb' (8 * (3 - i) + j) n := by
  apply BitVec.eq_of_getLsbD_eq
  intro k hk
  rw [BitVec.getLsbD_extractLsb', BitVec.getLsbD_extractLsb', bswap32_getLsbD w (by omega),
    show (8 * i + j + k) / 8 = i by omega, show (8 * i + j + k) % 8 = j + k by omega, Nat.add_assoc]

theorem bswap32_bswap32 (w : Word) : bswap32 (bswap32 w) = w := by
  apply BitVec.eq_of_getLsbD_eq
  intro k hk
  rw [bswap32_getLsbD _ hk, bswap32_getLsbD _ (by omega)]
  congr 1
  omega

/-- Settles O54. -/
theorem byteSwapExchangesBytesAndIsItsOwnInverse :
    Obligations.ByteSwapExchangesBytesAndIsItsOwnInverse := fun w =>
  ⟨bswap32_slice w 0 0 8 (by decide) (by decide), bswap32_slice w 3 0 8 (by decide) (by decide),
    bswap32_slice w 1 0 8 (by decide) (by decide), bswap32_slice w 2 0 8 (by decide) (by decide),
    bswap32_bswap32 w⟩

theorem decodePacketHeader_eq_error_iff (c : Config) (w : Word) (strict : Bool) (e : ErrorKind) :
    decodePacketHeader c w strict = .error e ↔ checkPacketWord c w strict = some e := by
  obtain ⟨_, hcheck, hdec⟩ | ⟨hcheck, hdec⟩ := decodePacketHeader_cases c w strict <;>
    simp [hcheck, hdec]

theorem decodeTransactionHeader_eq_error_iff (c : Config) (w : Word) (strict : Bool) (e : ErrorKind) :
    decodeTransactionHeader c w strict = .error e ↔ checkTransactionWord c w strict = some e := by
  obtain ⟨_, hcheck, hdec⟩ | ⟨hcheck, hdec⟩ := decodeTransactionHeader_cases c w strict <;>
    simp [hcheck, hdec]

/-- The version comes first, in either mode (40_header_validator.md R102). -/
theorem decodeTransactionHeader_version_error (c : Config) {w : Word} (strict : Bool)
    (hv : w.extractLsb' 28 4 ≠ 0x2) :
    decodeTransactionHeader c w strict = .error .protocolVersionMismatch := by
  rw [decodeTransactionHeader_eq_error_iff, checkTransactionWord_eq, if_pos hv]

/-- The lenient mode checks the version alone. -/
theorem decodeTransactionHeader_lenient_ok (c : Config) {w : Word} (hv : w.extractLsb' 28 4 = 0x2) :
    ∃ h, decodeTransactionHeader c w false = .ok h := by
  obtain ⟨e, hcheck, -⟩ | ⟨-, hdec⟩ := decodeTransactionHeader_cases c w false
  · simp [checkTransactionWord_eq, hv] at hcheck
  · exact ⟨_, hdec⟩

/-- A transaction header has no byte-order qualifier, so TXN_DECODE never reports a word as swapped. -/
theorem decodeTransactionHeader_ne_byteOrderMismatch (c : Config) (w : Word) (strict : Bool) :
    decodeTransactionHeader c w strict ≠ .error .byteOrderMismatch := by
  rw [ne_eq, decodeTransactionHeader_eq_error_iff, checkTransactionWord_eq]
  split_ifs <;> simp

/-- A word with the version bit and another qualifier than 0xF is reported as swapped, in either mode. -/
theorem decodePacketHeader_byteOrderMismatch (c : Config) {w : Word} (strict : Bool)
    (hv : w.getLsbD 29 = true) (hq : w.extractLsb' 4 4 ≠ 0xF) :
    decodePacketHeader c w strict = .error .byteOrderMismatch := by
  rw [decodePacketHeader_eq_error_iff, checkPacketWord_eq, if_neg (by simp [hv]), if_pos hq]

/-- Settles O55: the swapped word's bit 29 is a bit of the canonical qualifier, and its qualifier is the
high nibble of the canonical word's top byte, 0x2. The type plays no part. -/
theorem swappedCanonicalHeaderIsAByteOrderMismatch :
    Obligations.SwappedCanonicalHeaderIsAByteOrderMismatch := by
  intro c w strict htop hqualifier _
  have hhigh : (bswap32 w).extractLsb' 28 4 = w.extractLsb' 4 4 :=
    bswap32_slice w 3 4 4 (by decide) (by decide)
  have hlow : (bswap32 w).extractLsb' 0 8 = w.extractLsb' 24 8 :=
    bswap32_slice w 0 0 8 (by decide) (by decide)
  rw [hqualifier] at hhigh
  rw [htop] at hlow
  refine ⟨hhigh, bswap32_slice w 3 0 4 (by decide) (by decide), hlow,
    decodePacketHeader_byteOrderMismatch c strict ?_ ?_⟩
  · simpa using congrArg (·.getLsbD 1) hhigh
  · have hinner : ((bswap32 w).extractLsb' 0 8).extractLsb' 4 4 = (bswap32 w).extractLsb' 4 4 :=
      BitVec.extractLsb'_extractLsb'_of_le (by decide)
    rw [← hinner, hlow]
    decide

/-- Settles O56: the swapped word's version field is bits 7 to 4 of the word. -/
theorem swappedTransactionIsNotDetected : Obligations.SwappedTransactionIsNotDetected := by
  intro c w
  have hversion : (bswap32 w).extractLsb' 28 4 = w.extractLsb' 4 4 :=
    bswap32_slice w 3 4 4 (by decide) (by decide)
  rw [← hversion]
  exact ⟨fun hv strict => decodeTransactionHeader_version_error c strict hv,
    decodeTransactionHeader_lenient_ok c, decodeTransactionHeader_ne_byteOrderMismatch c _⟩

end Sys2Proof.Machine
end

section
/-! SUPPORT. The fixed bits of a row's words (30_encoding.md R76): a header word under its row's mask is the
format's match with the row's code at the code's place. -/

namespace Sys2Proof

@[simp] theorem wordRequest_low_word (sel : Select) (strict : Bool) (w : Word) :
    (wordRequest sel strict w).bits.extractLsb' 0 32 = w :=
  low_word_setWidth w

/-- Format PKT: the code is the packet type (30_encoding.md R66). -/
theorem pktRowWord_and_rowMask (c : Config) (t : Nibble) (r : BitVec 7) (p : BitVec 16) :
    pktRowWord c t r p &&& 0x200000FF = 0x200000F0 ||| Machine.putField t 0 := by
  apply BitVec.eq_of_getLsbD_eq
  intro k hk
  rw [BitVec.getLsbD_and, Machine.pktRowWord_getLsbD]
  interval_cases k <;> simp [Machine.putField]

/-- Format TXN.TYPE: the code is the type ID (30_encoding.md R67). -/
theorem txnRowWord_and_typeMask (id : BitVec 12) (n : BitVec 8) (y c : Nibble) :
    txnRowWord id n y c &&& 0xF00000F0 = 0x20000000 ||| Machine.putField y 4 := by
  apply BitVec.eq_of_getLsbD_eq
  intro k hk
  rw [BitVec.getLsbD_and, Machine.txnRowWord_getLsbD]
  interval_cases k <;> simp [Machine.putField]

/-- Format TXN.INFO: the code is the info code (30_encoding.md R68). -/
theorem txnRowWord_and_infoMask (id : BitVec 12) (n : BitVec 8) (y c : Nibble) :
    txnRowWord id n y c &&& 0xF000000F = 0x20000000 ||| Machine.putField c 0 := by
  apply BitVec.eq_of_getLsbD_eq
  intro k hk
  rw [BitVec.getLsbD_and, Machine.txnRowWord_getLsbD]
  interval_cases k <;> simp [Machine.putField]

/-- Settles O34: by the formats; a row's match is its format's with the row's code in it. -/
theorem rowWordsHaveTheTablesFixedBits : Obligations.RowWordsHaveTheTablesFixedBits := by
  intro i fixed mask h
  cases i with
  | valPktWord | valTxnWord | ptypeKnown | typeidKnown | infoKnown | mkPkt | mkTxn | pktDecode
  | txnDecode | classifyInfo => cases h
  | pktEncode id t =>
    cases h
    exact (congrArg (· &&& _) (wordRequest_low_word ..)).trans (pktEncodeWord_fixed id t)
  | txnEncode id n y c =>
    cases h
    exact (congrArg (· &&& _) (wordRequest_low_word ..)).trans (txnRowWord_fixed id n y c)
  | pktControl | pktStatus | pktResend | pktReserved3 | pktReserved4 | pktReserved5 | pktReserved6
  | pktReserved7 | pktReserved8 | pktReserved9 | pktReservedA | pktReservedB | pktReservedC
  | pktReservedD | pktReservedE | pktReservedF =>
    cases h
    rw [encode, wordRequest_low_word, pktRowWord_and_rowMask]
    rfl
  | txnTypeRead | txnTypeWrite | txnTypeReserved2 | txnTypeReserved3 | txnTypeReserved4
  | txnTypeReserved5 | txnTypeReserved6 | txnTypeReserved7 | txnTypeReserved8 | txnTypeReserved9
  | txnTypeReservedA | txnTypeReservedB | txnTypeReservedC | txnTypeReservedD | txnTypeReservedE
  | txnTypeReservedF =>
    cases h
    rw [encode, wordRequest_low_word, txnRowWord_and_typeMask]
    rfl
  | txnInfoRequestSuccess | txnInfoBadHeader | txnInfoReserved2 | txnInfoReserved3
  | txnInfoReadBusError | txnInfoWriteBusError | txnInfoReadBusTimeout | txnInfoWriteBusTimeout
  | txnInfoReserved8 | txnInfoReserved9 | txnInfoReservedA | txnInfoReservedB | txnInfoReservedC
  | txnInfoReservedD | txnInfoReservedE | txnInfoUnknownRequest =>
    cases h
    rw [encode, wordRequest_low_word, txnRowWord_and_infoMask]
    rfl

end Sys2Proof
end

section
/-! SUPPORT. Packet header words for every admissible place of the packet ID (30_encoding.md R60, decision
D5): which bits the reserved mask holds, and that type, reserved bits and packet ID are the whole of a word
with the version bit and the canonical qualifier. -/

namespace Sys2Proof.Machine

theorem idRegionReserved_getLsbD {c : Config} (h : c.wf = true) (x : BitVec 20) {j : Nat} (hj : j < 4) :
    (idRegionReserved c x).getLsbD j = if 8 + j < c.pidLsb then x.getLsbD j else x.getLsbD (j + 16) := by
  rcases pidLsb_cases h with hp | hp | hp | hp | hp <;>
    simp only [idRegionReserved, Config.reservedBelow, hp] <;> interval_cases j <;> simp

/-- Bits 27 to 8 are the packet ID and the four reserved bits, put together again. -/
theorem idRegion_slices {c : Config} (h : c.wf = true) (x : BitVec 20) :
    idRegion c (idRegionReserved c x) (x.extractLsb' (c.pidLsb - 8) 16) = x := by
  have hp := pidLsb_cases h
  apply BitVec.eq_of_getLsbD_eq
  intro k hk
  rw [idRegion_getLsbD h _ _ k hk]
  split_ifs with hbelow hid
  · rw [idRegionReserved_getLsbD h x (by omega), if_pos hbelow]
  · rw [BitVec.getLsbD_extractLsb', decide_eq_true (by omega), Bool.true_and]
    congr 1
    omega
  · rw [idRegionReserved_getLsbD h x (by omega), if_neg (by omega), Nat.sub_add_cancel (by omega)]

theorem reservedBits_slices (c : Config) (w : Word) :
    (reservedBits c w).extractLsb' 5 2 = w.extractLsb' 30 2 ∧
      (reservedBits c w).extractLsb' 4 1 = w.extractLsb' 28 1 ∧
      (reservedBits c w).extractLsb' 0 4 = idRegionReserved c (w.extractLsb' 8 20) := by
  unfold reservedBits
  refine ⟨?_, ?_, BitVec.extractLsb'_append_eq_right⟩ <;>
    (ext i hi
     simp only [BitVec.getElem_extractLsb', BitVec.getLsbD_append, BitVec.getLsbD_extractLsb']
     interval_cases i <;> simp)

/-- A word with the version bit and the canonical qualifier is the pattern word of its own fields. -/
theorem pktRowWord_of_slices {c : Config} (h : c.wf = true) {w : Word} (hv : w.getLsbD 29 = true)
    (hq : w.extractLsb' 4 4 = 0xF) :
    pktRowWord c (w.extractLsb' 0 4) (reservedBits c w) (w.extractLsb' c.pidLsb 16) = w := by
  have hp := pidLsb_cases h
  have hid : w.extractLsb' c.pidLsb 16 = (w.extractLsb' 8 20).extractLsb' (c.pidLsb - 8) 16 := by
    ext i hi
    simp only [BitVec.getElem_extractLsb', BitVec.getLsbD_extractLsb']
    rw [decide_eq_true (by omega), Bool.true_and]
    congr 1
    omega
  have hversion : w.extractLsb' 29 1 = 1#1 := by
    ext i hi
    simpa [show i = 0 by omega] using hv
  obtain ⟨htop, h28, hlow⟩ := reservedBits_slices c w
  rw [pktRowWord, htop, h28, hlow, hid, idRegion_slices h, ← hversion,
    show 0xF#4 = w.extractLsb' 4 4 from hq.symm]
  simp only [BitVec.extractLsb'_append_extractLsb'_eq_extractLsb']
  exact BitVec.extractLsb'_eq_self

/-- A word that shares no bit with a mask loses none outside it. -/
theorem and_not_eq_self_of_and_eq_zero {n : Nat} {x m : BitVec n} (h : x &&& m = 0) : x &&& ~~~m = x :=
  calc x &&& ~~~m
      = (x &&& m) ||| (x &&& ~~~m) := by simp [h]
    _ = x := by rw [← BitVec.and_or_distrib_left, BitVec.or_not_self, BitVec.and_allOnes]

theorem pktReservedMask_getLsbD {c : Config} (h : c.wf = true) {k : Nat} (hk : k < 32) :
    c.pktReservedMask.getLsbD k =
      (decide (8 ≤ k) && k != 29 && !decide (c.pidLsb ≤ k ∧ k < c.pidLsb + 16)) := by
  rcases pidLsb_cases h with hp | hp | hp | hp | hp <;>
    simp only [Config.pktReservedMask, Config.pktIdMask, hp] <;> revert k <;> decide

/-- Without its reserved bits a word with the version bit and the canonical qualifier is the word PKT_ENCODE
builds from its packet ID and type (30_encoding.md R65, R69). -/
theorem and_not_reservedMask_eq_packetWord {c : Config} (h : c.wf = true) {w : Word}
    (hv : w.getLsbD 29 = true) (hq : w.extractLsb' 4 4 = 0xF) :
    w &&& ~~~c.pktReservedMask = packetWord c (w.extractLsb' c.pidLsb 16) (w.extractLsb' 0 4) := by
  have hp := pidLsb_cases h
  have hones : ∀ j < 4, w.getLsbD (4 + j) = true := fun j hj => by
    rw [← Bool.true_and (w.getLsbD _), ← decide_eq_true hj, ← BitVec.getLsbD_extractLsb', hq]
    revert j
    decide
  apply BitVec.eq_of_getLsbD_eq
  intro k hk
  rw [BitVec.getLsbD_and, BitVec.getLsbD_not, decide_eq_true hk, Bool.true_and,
    pktReservedMask_getLsbD h hk, packetWord_getLsbD h _ _ _ hk]
  split_ifs with h4 h8 hid
  · simp [h4, show k < 8 by omega]
  · simpa [h8, show 4 + (k - 4) = k by omega] using hones (k - 4) (by omega)
  · simp [hid, show k - c.pidLsb < 16 by omega]
  · by_cases h29 : k = 29
    · simpa [h29] using hv
    · simp [hid, Nat.le_of_not_lt h8, bne, beq_false_of_ne h29]

/-- The reserved mask takes the seven reserved bits of a pattern word away and leaves its fields. -/
theorem pktRowWord_and_not_reservedMask {c : Config} (h : c.wf = true) (t : Nibble) (r : BitVec 7)
    (p : BitVec 16) : pktRowWord c t r p &&& ~~~c.pktReservedMask = pktRowWord c t 0 p := by
  obtain ⟨ht, hq, hid, hv⟩ := pktRowWord_slices h t r p
  rw [and_not_reservedMask_eq_packetWord h hv hq, ht, hid, pktRowWord_zero h]

/-- A pattern word has a bit of the reserved mask exactly when one of its seven reserved bits is set. -/
theorem pktRowWord_and_reservedMask_eq_zero_iff {c : Config} (h : c.wf = true) (t : Nibble) (r : BitVec 7)
    (p : BitVec 16) : pktRowWord c t r p &&& c.pktReservedMask = 0 ↔ r = 0 := by
  constructor
  · intro h0
    rw [← reservedBits_pktRowWord h t r p, ← and_not_eq_self_of_and_eq_zero h0,
      pktRowWord_and_not_reservedMask h, reservedBits_pktRowWord h]
  · rintro rfl
    rw [← pktRowWord_and_not_reservedMask h t 0, BitVec.and_assoc]
    simp

/-- Settles O59: the slices of a pattern word are its fields, and the fields of a word with the fixed bits
make it up again. -/
theorem packetWordsCarryTheirFieldsAtEveryPlace :
    Obligations.PacketWordsCarryTheirFieldsAtEveryPlace := by
  intro c h
  refine ⟨fun t r p => ?_, fun w => pktRowWord_of_slices h⟩
  obtain ⟨htype, hqualifier, hid, hversion⟩ := pktRowWord_slices h t r p
  exact ⟨htype, hqualifier, hid, hversion, reservedBits_pktRowWord h t r p,
    pktRowWord_and_reservedMask_eq_zero_iff h t r p⟩

end Sys2Proof.Machine
end

section
/-! SUPPORT. What the decoders accept and what the packet header decoder answers, over bit slices
(30_encoding.md R63, R69, R71): the lenient mode asks for the version, a packet header's qualifier and nothing
else, and does not see a reserved bit. -/

namespace Sys2Proof.Machine

theorem checkPacketWord_eq_none_iff (c : Config) (w : Word) (strict : Bool) :
    checkPacketWord c w strict = none ↔
      w.getLsbD 29 = true ∧ w.extractLsb' 4 4 = 0xF ∧
        (strict = true → (w.extractLsb' 0 4).toNat ≤ 2 ∧ w &&& c.pktReservedMask = 0) := by
  refine ⟨checkPacketWord_none, fun ⟨hv, hq, hs⟩ => ?_⟩
  rw [checkPacketWord_eq, if_neg (by simp [hv]), if_neg (by simp [hq]),
    if_neg fun ⟨hstrict, ht⟩ => absurd (hs hstrict).1 (by omega),
    if_neg fun ⟨hstrict, hr⟩ => hr (hs hstrict).2]

theorem exists_decodePacketHeader_ok_iff (c : Config) (w : Word) (strict : Bool) :
    (∃ h, decodePacketHeader c w strict = .ok h) ↔
      w.getLsbD 29 = true ∧ w.extractLsb' 4 4 = 0xF ∧
        (strict = true → (w.extractLsb' 0 4).toNat ≤ 2 ∧ w &&& c.pktReservedMask = 0) := by
  rw [← checkPacketWord_eq_none_iff]
  obtain ⟨e, hcheck, hdec⟩ | ⟨hcheck, hdec⟩ := decodePacketHeader_cases c w strict <;>
    simp [hcheck, hdec]

/-- The version comes first, in either mode (40_header_validator.md R100). -/
theorem decodePacketHeader_version_error (c : Config) {w : Word} (strict : Bool)
    (hv : w.getLsbD 29 = false) :
    decodePacketHeader c w strict = .error .protocolVersionMismatch := by
  rw [decodePacketHeader_eq_error_iff, checkPacketWord_eq, if_pos hv]

theorem checkTransactionWord_eq_none_iff (c : Config) (w : Word) (strict : Bool) :
    checkTransactionWord c w strict = none ↔
      w.extractLsb' 28 4 = 2 ∧ (strict = true → typeIdIsKnown c (w.extractLsb' 4 4) = true) ∧
        (strict = true → infoCodeIsKnown (w.extractLsb' 0 4) = true) := by
  constructor
  · intro hnone
    obtain ⟨hv, hs⟩ := checkTransactionWord_none hnone
    exact ⟨hv, fun hstrict => (hs hstrict).1, fun hstrict => (hs hstrict).2⟩
  · rintro ⟨hv, hy, hi⟩
    rw [checkTransactionWord_eq, if_neg (by simp [hv]), if_neg (by simpa using hy),
      if_neg (by simpa using hi)]

theorem exists_decodeTransactionHeader_ok_iff (c : Config) (w : Word) (strict : Bool) :
    (∃ h, decodeTransactionHeader c w strict = .ok h) ↔
      w.extractLsb' 28 4 = 2 ∧ (strict = true → typeIdIsKnown c (w.extractLsb' 4 4) = true) ∧
        (strict = true → infoCodeIsKnown (w.extractLsb' 0 4) = true) := by
  rw [← checkTransactionWord_eq_none_iff]
  obtain ⟨e, hcheck, hdec⟩ | ⟨hcheck, hdec⟩ := decodeTransactionHeader_cases c w strict <;>
    simp [hcheck, hdec]

/-- Settles O38: the three errors come before every strict check, and the lenient mode has no other. -/
theorem wordsNoModeAccepts : Obligations.WordsNoModeAccepts := fun c w strict =>
  ⟨decodePacketHeader_version_error c strict, decodePacketHeader_byteOrderMismatch c strict,
    decodeTransactionHeader_version_error c strict,
    fun hv hq => (exists_decodePacketHeader_ok_iff c w false).2 ⟨hv, hq, nofun⟩,
    decodeTransactionHeader_lenient_ok c⟩

/-- Settles O39: everything the decoder can answer, with the packet ID's field as a slice. -/
theorem decodedPacketFieldsAreTheWordsSlices : Obligations.DecodedPacketFieldsAreTheWordsSlices := by
  intro c w strict header h hok
  obtain ⟨e, -, herr⟩ | ⟨-, hdec⟩ := decodePacketHeader_cases c w strict
  · cases herr.symm.trans hok
  · cases hdec.symm.trans hok
    exact ⟨rfl, packetIdOf_eq h w, rfl, packetTypeNibble_ofNibble _⟩

/-- A field of a packet header is cut out of the bits outside the reserved mask. -/
theorem takeField_and_not_reservedMask {c : Config} {m : Word} (hm : m ∈ pktFieldMasks c) (w : Word)
    (shift n : Nat) : takeField (w &&& ~~~c.pktReservedMask) m shift n = takeField w m shift n := by
  rw [takeField, takeField, BitVec.and_assoc, BitVec.and_comm _ m,
    and_not_eq_self_of_and_eq_zero (and_pktReservedMask hm)]

/-- The version bit is no reserved bit. -/
theorem getLsbD_29_and_not_reservedMask (c : Config) (w : Word) :
    (w &&& ~~~c.pktReservedMask).getLsbD 29 = w.getLsbD 29 := by
  simp [Config.pktReservedMask]

/-- "On a lenient decode they do not affect any output" (30_encoding.md R69). -/
theorem decodePacketHeader_lenient_and_not_reservedMask (c : Config) (w : Word) :
    decodePacketHeader c (w &&& ~~~c.pktReservedMask) false = decodePacketHeader c w false := by
  have hmasks : c.pktIdMask ∈ pktFieldMasks c ∧ Config.PKT_BOQ_MASK ∈ pktFieldMasks c ∧
      Config.PKT_TYPE_MASK ∈ pktFieldMasks c := by simp [pktFieldMasks]
  obtain ⟨hid, hqualifier, htype⟩ := hmasks
  simp only [decodePacketHeader, checkPacketWord, pktVersionOf_eq, pktVersionBit, packetIdOf,
    byteOrderQualifierOf, packetTypeOf, takeField_and_not_reservedMask hid,
    takeField_and_not_reservedMask hqualifier, takeField_and_not_reservedMask htype,
    getLsbD_29_and_not_reservedMask, Bool.false_and]

/-- Settles O43: both words decode as what is left of them outside the reserved mask. -/
theorem reservedBitsDoNotMatterLeniently : Obligations.ReservedBitsDoNotMatterLeniently := by
  intro c v w _ heq
  rw [← decodePacketHeader_lenient_and_not_reservedMask, heq,
    decodePacketHeader_lenient_and_not_reservedMask]

end Sys2Proof.Machine
end

section
/-! SUPPORT. How many words the decoders accept (30_encoding.md R72): the accepted words of each mode are the
pattern words of the field values that mode allows, and a pattern word has one set of field values. -/

namespace Sys2Proof.Machine

theorem natCard_bitVec (n : Nat) : Nat.card (BitVec n) = 2 ^ n := by
  rw [Nat.card_congr BitVec.equivFin.toEquiv, Nat.card_fin]

/-- The values of a field that a mode allows: every one leniently, those with `P` strictly. -/
def allowed {n : Nat} (strict : Bool) (P : BitVec n → Prop) : Set (BitVec n) :=
  {x | strict = true → P x}

theorem ncard_allowed_lenient {n : Nat} (P : BitVec n → Prop) : (allowed false P).ncard = 2 ^ n := by
  have huniv : allowed false P = Set.univ := by simp [allowed]
  rw [huniv, Set.ncard_univ, natCard_bitVec]

theorem ncard_allowed_strict {n : Nat} (P : BitVec n → Prop) [DecidablePred P] :
    (allowed true P).ncard = (Finset.univ.filter P).card := by
  simp [allowed, ← Set.ncard_coe_finset]

/-! Packet headers: type, reserved bits, packet ID. -/

def pktFieldsOfWord (c : Config) (w : Word) : Nibble × BitVec 7 × BitVec 16 :=
  ⟨w.extractLsb' 0 4, reservedBits c w, w.extractLsb' c.pidLsb 16⟩

def pktWordOfFields (c : Config) (x : Nibble × BitVec 7 × BitVec 16) : Word :=
  pktRowWord c x.1 x.2.1 x.2.2

theorem pktFieldsOfWord_leftInverse {c : Config} (h : c.wf = true) :
    Function.LeftInverse (pktFieldsOfWord c) (pktWordOfFields c) := fun ⟨t, r, p⟩ => by
  obtain ⟨ht, -, hp, -⟩ := pktRowWord_slices h t r p
  exact Prod.ext ht (Prod.ext (reservedBits_pktRowWord h t r p) hp)

/-- The accepted words are the pattern words of the field values the mode allows (40_header_validator.md
R100). -/
theorem acceptedPktWords_eq_image {c : Config} (h : c.wf = true) (strict : Bool) :
    {w : Word | ∃ header, decodePacketHeader c w strict = .ok header}
      = pktWordOfFields c ''
        (allowed strict (fun t => t.toNat ≤ 2) ×ˢ allowed strict (fun r => r = 0) ×ˢ Set.univ) := by
  refine Set.ext fun w => (exists_decodePacketHeader_ok_iff c w strict).trans ⟨?_, ?_⟩
  · rintro ⟨hv, hq, hs⟩
    have hw := pktRowWord_of_slices h hv hq
    rw [← hw, pktRowWord_and_reservedMask_eq_zero_iff h, hw] at hs
    exact ⟨pktFieldsOfWord c w,
      ⟨fun hstrict => (hs hstrict).1, fun hstrict => (hs hstrict).2, trivial⟩, hw⟩
  · rintro ⟨⟨t, r, p⟩, ⟨ht, hr, -⟩, rfl⟩
    obtain ⟨htype, hqualifier, -, hversion⟩ := pktRowWord_slices h t r p
    refine ⟨hversion, hqualifier, fun hstrict => ⟨?_, ?_⟩⟩
    · exact htype.symm ▸ ht hstrict
    · exact (pktRowWord_and_reservedMask_eq_zero_iff h t r p).2 (hr hstrict)

theorem card_acceptedPktWords {c : Config} (h : c.wf = true) (strict : Bool) :
    Nat.card (Subtype fun w : Word => ∃ header, decodePacketHeader c w strict = .ok header)
      = (allowed strict fun t : Nibble => t.toNat ≤ 2).ncard
        * ((allowed strict fun r : BitVec 7 => r = 0).ncard * 2 ^ 16) := by
  calc _ = {w : Word | ∃ header, decodePacketHeader c w strict = .ok header}.ncard :=
        Nat.card_coe_set_eq _
    _ = _ := by
        rw [acceptedPktWords_eq_image h,
          Set.ncard_image_of_injective _ (pktFieldsOfWord_leftInverse h).injective,
          Set.ncard_prod, Set.ncard_prod, Set.ncard_univ, natCard_bitVec]

/-- Settles O51: leniently every type and every reserved bit is allowed, strictly three types and none. -/
theorem acceptedPacketWordsCount : Obligations.AcceptedPacketWordsCount := by
  have htypes : (Finset.univ.filter fun t : Nibble => t.toNat ≤ 2).card = 3 := by decide
  have hreserved : (Finset.univ.filter fun r : BitVec 7 => r = 0).card = 1 := by decide
  constructor
  · rw [card_acceptedPktWords decided_wf, ncard_allowed_lenient, ncard_allowed_lenient]
    rfl
  · rw [card_acceptedPktWords decided_wf, ncard_allowed_strict, ncard_allowed_strict, htypes, hreserved,
      Nat.one_mul]

/-! Transaction headers: transaction ID, word count, type ID, info code. -/

def txnFieldsOfWord (w : Word) : BitVec 12 × BitVec 8 × Nibble × Nibble :=
  ⟨w.extractLsb' 16 12, w.extractLsb' 8 8, w.extractLsb' 4 4, w.extractLsb' 0 4⟩

def txnWordOfFields (x : BitVec 12 × BitVec 8 × Nibble × Nibble) : Word :=
  txnRowWord x.1 x.2.1 x.2.2.1 x.2.2.2

theorem txnFieldsOfWord_leftInverse : Function.LeftInverse txnFieldsOfWord txnWordOfFields :=
  fun ⟨id, n, y, i⟩ => by
    obtain ⟨-, hid, hn, hy, hi⟩ := txnRowWord_slices id n y i
    exact Prod.ext hid (Prod.ext hn (Prod.ext hy hi))

/-- A word of version 2 is the pattern word of its own fields. -/
theorem txnWordOfFields_fieldsOfWord {w : Word} (hv : w.extractLsb' 28 4 = 2) :
    txnWordOfFields (txnFieldsOfWord w) = w := by
  rw [txnWordOfFields, txnRowWord, txnFieldsOfWord, show 0x2#4 = w.extractLsb' 28 4 from hv.symm]
  simp only [BitVec.extractLsb'_append_extractLsb'_eq_extractLsb']
  exact BitVec.extractLsb'_eq_self

/-- The accepted words are the pattern words of the field values the mode allows (40_header_validator.md
R102). -/
theorem acceptedTxnWords_eq_image (c : Config) (strict : Bool) :
    {w : Word | ∃ h, decodeTransactionHeader c w strict = .ok h}
      = txnWordOfFields '' (Set.univ ×ˢ Set.univ ×ˢ allowed strict (fun y => typeIdIsKnown c y = true)
        ×ˢ allowed strict (fun i => infoCodeIsKnown i = true)) := by
  refine Set.ext fun w => (exists_decodeTransactionHeader_ok_iff c w strict).trans ⟨?_, ?_⟩
  · rintro ⟨hv, hy, hi⟩
    exact ⟨txnFieldsOfWord w, ⟨trivial, trivial, hy, hi⟩, txnWordOfFields_fieldsOfWord hv⟩
  · rintro ⟨⟨id, n, y, i⟩, ⟨-, -, hy, hi⟩, rfl⟩
    obtain ⟨hversion, -, -, htype, hinfo⟩ := txnRowWord_slices id n y i
    exact ⟨hversion, htype.symm ▸ hy, hinfo.symm ▸ hi⟩

theorem card_acceptedTxnWords (c : Config) (strict : Bool) :
    Nat.card (Subtype fun w : Word => ∃ h, decodeTransactionHeader c w strict = .ok h)
      = 2 ^ 12 * (2 ^ 8 * ((allowed strict fun y => typeIdIsKnown c y = true).ncard
        * (allowed strict fun i => infoCodeIsKnown i = true).ncard)) := by
  calc _ = {w : Word | ∃ h, decodeTransactionHeader c w strict = .ok h}.ncard := Nat.card_coe_set_eq _
    _ = _ := by
        rw [acceptedTxnWords_eq_image,
          Set.ncard_image_of_injective _ txnFieldsOfWord_leftInverse.injective,
          Set.ncard_prod, Set.ncard_prod, Set.ncard_prod, Set.ncard_univ, Set.ncard_univ,
          natCard_bitVec, natCard_bitVec]

/-- Settles O52: leniently every type ID and every info code is allowed, strictly two and seven. -/
theorem acceptedTransactionWordsCount : Obligations.AcceptedTransactionWordsCount := by
  have htypes : (Finset.univ.filter fun y => typeIdIsKnown Config.decided y = true).card = 2 := by decide
  have hinfos : (Finset.univ.filter fun i => infoCodeIsKnown i = true).card = 7 := by decide
  constructor
  · rw [card_acceptedTxnWords, ncard_allowed_lenient, ncard_allowed_lenient]
    rfl
  · rw [card_acceptedTxnWords, ncard_allowed_strict, ncard_allowed_strict, htypes, hinfos]
    rfl

end Sys2Proof.Machine
end

section
/-! SUPPORT. The constructors and the composites (30_encoding.md R75, R77): a constructor answers by the number
it is offered, and a word made of fields decodes to those fields. -/

namespace Sys2Proof.Machine

/-- MK_PKT by the number offered alone (40_header_validator.md R106). -/
theorem makePacket_eq {h : Nat} (id : BitVec h) (t : Nibble) :
    makePacket id t =
      if 0xFFFF < id.toNat then .error .invalidField
      else .ok { packetId := BitVec.ofNat 16 id.toNat, packetType := t } := by
  simp [makePacket, exceeds]

/-- MK_TXN by the numbers offered alone (40_header_validator.md R107). -/
theorem makeTransaction_eq {h : Nat} (id n y i : BitVec h) :
    makeTransaction id n y i =
      if 0xFFF < id.toNat ∨ 0xFF < n.toNat ∨ 0xF < y.toNat ∨ 0xF < i.toNat then .error .invalidField
      else .ok
        { transactionId := BitVec.ofNat 12 id.toNat, wordCount := BitVec.ofNat 8 n.toNat
          typeId := BitVec.ofNat 4 y.toNat, infoCode := BitVec.ofNat 4 i.toNat } := by
  simp [makeTransaction, exceeds, or_assoc]

/-- Settles O53: neither constructor looks at anything but the numbers. -/
theorem constructorsDependOnTheHostValueOnly : Obligations.ConstructorsDependOnTheHostValueOnly := by
  intro h k a b d e a' b' d' e' t ha hb hd he
  simp only [makePacket_eq, makeTransaction_eq, ha, hb, hd, he, and_self]

theorem encodePacketHeader_eq (c : Config) (id : BitVec 16) (t : Nibble) :
    encodePacketHeader c id t =
      if 2 < t.toNat then .error .invalidField else .ok (packetWord c id t) := by
  simp [encodePacketHeader, packetTypeIsKnown]

/-- A pattern word decodes to its type and packet ID; in strict mode if the type is named and no reserved bit
is set. -/
theorem decodePacketHeader_pktRowWord {c : Config} (h : c.wf = true) (t : Nibble) (r : BitVec 7)
    (p : BitVec 16) {strict : Bool} (hs : strict = true → t.toNat ≤ 2 ∧ r = 0) :
    decodePacketHeader c (pktRowWord c t r p) strict = .ok ⟨2, p, 0xF, packetTypeOfNibble t⟩ := by
  obtain ⟨htype, hqualifier, hid, hversion⟩ := pktRowWord_slices h t r p
  have hcheck : checkPacketWord c (pktRowWord c t r p) strict = none := by
    rw [checkPacketWord_eq_none_iff, htype, pktRowWord_and_reservedMask_eq_zero_iff h]
    exact ⟨hversion, hqualifier, hs⟩
  obtain ⟨e, herr, -⟩ | ⟨-, hdec⟩ := decodePacketHeader_cases c (pktRowWord c t r p) strict
  · cases hcheck.symm.trans herr
  · rw [hdec, packetIdOf_eq h, hid, htype]

/-- What PKT_ENCODE builds of a named type decodes to what went in, in both modes (41_packet_header.md
R136). -/
theorem decodePacketHeader_packetWord {c : Config} (h : c.wf = true) (id : BitVec 16) {t : Nibble}
    (ht : t.toNat ≤ 2) (strict : Bool) :
    decodePacketHeader c (packetWord c id t) strict = .ok ⟨2, id, 0xF, packetTypeOfNibble t⟩ := by
  rw [← pktRowWord_zero h]
  exact decodePacketHeader_pktRowWord h t 0 id fun _ => ⟨ht, rfl⟩

/-- What TXN_ENCODE builds decodes leniently to what went in (42_transaction_header.md R156). -/
theorem decodeTransactionHeader_transactionWord (c : Config) (id : BitVec 12) (n : BitVec 8)
    (y i : Nibble) :
    decodeTransactionHeader c (transactionWord id n y i) false
      = .ok ⟨2, id, n, typeIdOfNibble c y, infoCodeOfNibble i⟩ := by
  obtain ⟨hversion, hid, hcount, htype, hinfo⟩ := txnRowWord_slices id n y i
  rw [transactionWord_eq]
  obtain ⟨e, herr, -⟩ | ⟨-, hdec⟩ := decodeTransactionHeader_cases c (txnRowWord id n y i) false
  · simp [checkTransactionWord_eq, hversion] at herr
  · rw [hdec, hid, hcount, htype, hinfo]

theorem pktDecodeRetry_of_ne {c : Config} {w : Word} {strict : Bool}
    (h : decodePacketHeader c w strict ≠ .error .byteOrderMismatch) :
    pktDecodeRetry c w strict = { result := decodePacketHeader c w strict, swapped := false } := by
  unfold pktDecodeRetry
  split
  · contradiction
  · rfl

theorem pktDecodeRetry_of_byteOrderMismatch {c : Config} {w : Word} {strict : Bool}
    (h : decodePacketHeader c w strict = .error .byteOrderMismatch) :
    pktDecodeRetry c w strict
      = { result := decodePacketHeader c (bswap32 w) strict, swapped := true } := by
  rw [pktDecodeRetry, h]

theorem packetWord_decided_top (id : BitVec 16) (t : Nibble) :
    (packetWord Config.decided id t).extractLsb' 24 8 = 0x20 := by
  ext i hi
  rw [BitVec.getElem_extractLsb', packetWord_getLsbD decided_wf _ _ _ (by omega)]
  interval_cases i <;> simp

/-- The word of a named type, swapped, is reported as swapped in both modes (20_memory.md R47). -/
theorem decodePacketHeader_bswap32_packetWord (id : BitVec 16) {t : Nibble} (ht : t.toNat ≤ 2)
    (strict : Bool) :
    decodePacketHeader Config.decided (bswap32 (packetWord Config.decided id t)) strict
      = .error .byteOrderMismatch := by
  obtain ⟨htype, hqualifier, -, -⟩ := pktRowWord_slices decided_wf t 0 id
  rw [pktRowWord_zero decided_wf] at htype hqualifier
  obtain ⟨-, -, -, herr⟩ := swappedCanonicalHeaderIsAByteOrderMismatch Config.decided
    (packetWord Config.decided id t) strict (packetWord_decided_top id t) hqualifier (by rwa [htype])
  exact herr

/-- Settles O57: an encoded word decodes, and its swapped word is reported as swapped and swaps back. -/
theorem retryRecoversEitherByteOrder : Obligations.RetryRecoversEitherByteOrder := by
  refine ⟨?_, fun c w strict => ⟨pktDecodeRetry_of_ne, pktDecodeRetry_of_byteOrderMismatch⟩⟩
  intro id t strict w hw
  rw [encodePacketHeader_eq] at hw
  split at hw
  case isTrue => cases hw
  case isFalse htype =>
    cases hw
    have ht : t.toNat ≤ 2 := Nat.le_of_not_lt htype
    have hdec := decodePacketHeader_packetWord decided_wf id ht strict
    constructor
    · rw [pktDecodeRetry_of_ne (by simp [hdec]), hdec]
    · rw [pktDecodeRetry_of_byteOrderMismatch (decodePacketHeader_bswap32_packetWord id ht strict),
        bswap32_bswap32, hdec]

/-- BUILD_PKT range-checks the value and refuses an unnamed type (30_encoding.md R75). -/
theorem buildPkt_eq (c : Config) {h : Nat} (id : BitVec h) (t : Nibble) :
    buildPkt c id t =
      if 0xFFFF < id.toNat ∨ 2 < t.toNat then .error .invalidField
      else .ok (packetWord c (BitVec.ofNat 16 id.toNat) t) := by
  rw [buildPkt, makePacket_eq, ite_or]
  split_ifs with hid ht
  · rfl
  · exact (encodePacketHeader_eq ..).trans (if_pos ht)
  · exact (encodePacketHeader_eq ..).trans (if_neg ht)

/-- BUILD_TXN range-checks the four values (30_encoding.md R75). -/
theorem buildTxn_eq {h : Nat} (id n y i : BitVec h) :
    buildTxn id n y i =
      if 0xFFF < id.toNat ∨ 0xFF < n.toNat ∨ 0xF < y.toNat ∨ 0xF < i.toNat then .error .invalidField
      else .ok (transactionWord (BitVec.ofNat 12 id.toNat) (BitVec.ofNat 8 n.toNat)
        (BitVec.ofNat 4 y.toNat) (BitVec.ofNat 4 i.toNat)) := by
  rw [buildTxn, makeTransaction_eq]
  split_ifs <;> rfl

/-- A number that fits a field is the field's value. -/
theorem toNat_ofNat_of_le {n x : Nat} (h : x ≤ 2 ^ n - 1) : (BitVec.ofNat n x).toNat = x :=
  BitVec.toNat_ofNat x n ▸ Nat.mod_eq_of_lt (Nat.lt_of_le_pred (Nat.two_pow_pos n) h)

/-- Settles O58: the builders' one check each, and the round trips of the words they build. -/
theorem buildersAnswerOrRejectAndRoundTrip : Obligations.BuildersAnswerOrRejectAndRoundTrip := by
  refine ⟨fun id t => ⟨fun hbad => ?_, fun hid ht => ?_⟩,
    fun id n y i => ⟨fun hbad => ?_, fun hid hn hy hi => ?_⟩⟩
  · rw [buildPkt_eq, if_pos hbad]
  · exact ⟨_, _, (buildPkt_eq ..).trans (if_neg (by omega)),
      decodePacketHeader_packetWord decided_wf _ ht true, toNat_ofNat_of_le hid,
      packetTypeNibble_ofNibble t⟩
  · rw [buildTxn_eq, if_pos hbad]
  · refine ⟨_, _, (buildTxn_eq ..).trans (if_neg (by omega)),
      decodeTransactionHeader_transactionWord .., toNat_ofNat_of_le hid, toNat_ofNat_of_le hn, ?_, ?_⟩
    · rw [typeIdNibble_ofNibble, toNat_ofNat_of_le hy]
    · rw [infoCodeNibble_ofNibble, toNat_ofNat_of_le hi]

end Sys2Proof.Machine
end

section
/-! SUPPORT. The blocks of `header_validator` against the right-hand sides of its rules (40_header_validator.md
R100 to R109): what an evaluation of each drives, and the outputs at the decided configuration. -/

namespace Sys2Proof.Machine

theorem exec_valPktWord (w : Word) (strict : Bool) (s : State) :
    exec (.valPktWord w strict) s
      = .next (s.setValPkt ⟨⟨w, strict⟩, valPktOut Config.decided ⟨w, strict⟩⟩) := rfl

theorem exec_valTxnWord (w : Word) (strict : Bool) (s : State) :
    exec (.valTxnWord w strict) s
      = .next (s.setValTxn ⟨⟨w, strict⟩, valTxnOut Config.decided ⟨w, strict⟩⟩) := rfl

theorem exec_pktDecode (w : Word) (strict : Bool) (s : State) :
    exec (.pktDecode w strict) s = .next (s.setPktDec (pktDecPort w strict)) := rfl

theorem exec_txnDecode (w : Word) (strict : Bool) (s : State) :
    exec (.txnDecode w strict) s = .next (s.setTxnDec (txnDecPort w strict)) := rfl

theorem exec_ptypeKnown (t : Nibble) (s : State) :
    exec (.ptypeKnown t) s = .next (s.setPtype ⟨t, packetTypeIsKnown t⟩) := rfl

theorem exec_typeidKnown (y : Nibble) (s : State) :
    exec (.typeidKnown y) s = .next (s.setTid ⟨y, typeIdIsKnown Config.decided y⟩) := rfl

theorem exec_infoKnown (i : Nibble) (s : State) :
    exec (.infoKnown i) s = .next (s.setInfo ⟨i, infoOut Config.decided i⟩) := rfl

theorem exec_mkPkt (id : HostValue) (t : Nibble) (s : State) :
    exec (.mkPkt id t) s = .next (s.setMkPkt ⟨⟨id, t⟩, mkPktOut Config.decided ⟨id, t⟩⟩) := rfl

theorem exec_mkTxn (id n y i : HostValue) (s : State) :
    exec (.mkTxn id n y i) s
      = .next (s.setMkTxn ⟨⟨id, n, y, i⟩, mkTxnOut Config.decided ⟨id, n, y, i⟩⟩) := rfl

/-! Known-code tests. -/

theorem packetTypeIsKnown_eq (t : Nibble) :
    packetTypeIsKnown t = (t == 0x0 || t == 0x1 || t == 0x2) := by
  revert t; decide

theorem packetTypeOfNibble_eq (t : Nibble) :
    packetTypeOfNibble t =
      if t = 0x0 then .control else if t = 0x1 then .status else if t = 0x2 then .resend
        else .unknown t := by
  revert t; decide

/-- The two type IDs of decision D11. -/
theorem typeIdIsKnown_decided (y : Nibble) : typeIdIsKnown Config.decided y = isKnownType y := rfl

theorem infoCodeIsKnown_eq (i : Nibble) : infoCodeIsKnown i = isKnownInfo i := by
  revert i; decide

/-- Settles O7: the flag and the tag, nibble by nibble. -/
theorem ptypeKnownIsOneUpToTwo : Obligations.PtypeKnownIsOneUpToTwo := by
  intro t s
  rw [exec_ptypeKnown, packetTypeIsKnown_eq]
  exact ⟨rfl, packetTypeOfNibble_eq t⟩

/-- Settles O8: the configuration's two numbers are those of decision D11. -/
theorem typeidKnownIsOneForReadAndWrite : Obligations.TypeidKnownIsOneForReadAndWrite := by
  intro y s
  rw [exec_typeidKnown, typeIdIsKnown_decided]
  rfl

/-- Settles O10: a code outside the known set has the unknown tag because its flag is 0. -/
theorem infoKnownIsOneForTheSevenNamedCodes : Obligations.InfoKnownIsOneForTheSevenNamedCodes := by
  refine ⟨fun i s => ⟨_, exec_infoKnown i s, rfl, infoCodeIsKnown_eq i, fun hunknown => ?_⟩, rfl⟩
  rwa [infoCodeOfNibble_eq_unknown_iff, infoCodeIsKnown_eq]

/-! Word checks. -/

/-- `pkt_err` with the codes of decision D9 and the reserved mask of decision D5. -/
theorem valPktOut_decided (w : Word) (strict : Bool) :
    valPktOut Config.decided ⟨w, strict⟩ = packetErr w strict := by
  rw [valPktOut, checkPacketWord_eq, decided_reservedMask, packetErr]
  simp only [apply_ite (checkCode Config.decided)]
  rfl

/-- `txn_err` with the codes of decision D9 and the type IDs of decision D11. -/
theorem valTxnOut_decided (w : Word) (strict : Bool) :
    valTxnOut Config.decided ⟨w, strict⟩ = transactionErr w strict := by
  rw [valTxnOut, checkTransactionWord_eq, typeIdIsKnown_decided, infoCodeIsKnown_eq, transactionErr]
  simp only [apply_ite (checkCode Config.decided)]
  rfl

/-- Settles O5: the clauses of the check, each with its code. -/
theorem valPktWordReportsTheFirstError : Obligations.ValPktWordReportsTheFirstError := by
  intro w strict s
  rw [exec_valPktWord, valPktOut_decided]
  rfl

/-- Settles O6: the clauses of the check, each with its code. -/
theorem valTxnWordReportsTheFirstError : Obligations.ValTxnWordReportsTheFirstError := by
  intro w strict s
  rw [exec_valTxnWord, valTxnOut_decided]
  rfl

/-! The decoders against the word checks. -/

theorem report_ok_eq_false_iff {F A : Type} {c : Config} (h : c.wf = true) (zero : F) (view : A → F)
    (r : Except ErrorKind A) :
    (report c zero view r).ok = false ↔ (report c zero view r).err ≠ 0 := by
  rw [← Bool.not_eq_true, ne_eq, report_ok_iff_err_eq_zero h]

theorem pktDecOut_err (c : Config) (i : WordIn) : (pktDecOut c i).err = valPktOut c i := by
  rw [pktDecOut, valPktOut]
  obtain ⟨e, hcheck, hdec⟩ | ⟨hcheck, hdec⟩ := decodePacketHeader_cases c i.word i.strict <;>
    rw [hcheck, hdec] <;> rfl

theorem txnDecOut_err (c : Config) (i : WordIn) : (txnDecOut c i).err = valTxnOut c i := by
  rw [txnDecOut, valTxnOut]
  obtain ⟨e, hcheck, hdec⟩ | ⟨hcheck, hdec⟩ := decodeTransactionHeader_cases c i.word i.strict <;>
    rw [hcheck, hdec] <;> rfl

theorem pktDecOut_ok_eq_false_iff {c : Config} (h : c.wf = true) (i : WordIn) :
    (pktDecOut c i).ok = false ↔ valPktOut c i ≠ 0 := by
  rw [← pktDecOut_err]
  exact report_ok_eq_false_iff h ..

theorem txnDecOut_ok_eq_false_iff {c : Config} (h : c.wf = true) (i : WordIn) :
    (txnDecOut c i).ok = false ↔ valTxnOut c i ≠ 0 := by
  rw [← txnDecOut_err]
  exact report_ok_eq_false_iff h ..

/-- Settles O37: a decoder's `err` is its word check's output, and 0 is no error's code. -/
theorem decodersFailExactlyWithTheWordChecks : Obligations.DecodersFailExactlyWithTheWordChecks := by
  intro w strict s t u
  constructor <;> intro hval hdec
  · rw [exec_valPktWord, Host.Outcome.next.injEq] at hval
    rw [exec_pktDecode, Host.Outcome.next.injEq] at hdec
    subst hval hdec
    exact ⟨pktDecOut_ok_eq_false_iff decided_wf _, pktDecOut_err _ _⟩
  · rw [exec_valTxnWord, Host.Outcome.next.injEq] at hval
    rw [exec_txnDecode, Host.Outcome.next.injEq] at hdec
    subst hval hdec
    exact ⟨txnDecOut_ok_eq_false_iff decided_wf _, txnDecOut_err _ _⟩

/-! Constructors. -/

/-- A field takes the low bits of its host value; above the bound the value is refused. -/
theorem mkPktOut_eq (c : Config) (idIn : HostValue) (t : Nibble) :
    mkPktOut c ⟨idIn, t⟩ =
      if 0xFFFF < idIn.toNat then raise c mkPktZero .invalidField
      else succeed { packetId := idIn.extractLsb' 0 16, packetType := t } := by
  rw [mkPktOut, makePacket_eq, apply_ite (report c mkPktZero id)]
  rfl

/-- Each field takes the low bits of its host value; above any bound the values are refused. -/
theorem mkTxnOut_eq (c : Config) (idIn nIn yIn cIn : HostValue) :
    mkTxnOut c ⟨idIn, nIn, yIn, cIn⟩ =
      if 0xFFF < idIn.toNat ∨ 0xFF < nIn.toNat ∨ 0xF < yIn.toNat ∨ 0xF < cIn.toNat then
        raise c txnValuesZero .invalidField
      else succeed
        { transactionId := idIn.extractLsb' 0 12, wordCount := nIn.extractLsb' 0 8
          typeId := yIn.extractLsb' 0 4, infoCode := cIn.extractLsb' 0 4 } := by
  rw [mkTxnOut, makeTransaction_eq, apply_ite (report c txnValuesZero id)]
  rfl

/-- Settles O12: InvalidField is raised above the bound, with its code of decision D9. -/
theorem mkPktChecksThePacketId : Obligations.MkPktChecksThePacketId := by
  intro id t s
  rw [exec_mkPkt, mkPktOut_eq]
  rfl

/-- Settles O13: InvalidField is raised above any of the bounds, with its code of decision D9. -/
theorem mkTxnChecksTheFourFields : Obligations.MkTxnChecksTheFourFields := by
  intro id n y i s
  rw [exec_mkTxn, mkTxnOut_eq]
  rfl

end Sys2Proof.Machine
end

section
/-! SUPPORT. PKT_DECODE and PKT_ENCODE (41_packet_header.md): their outputs over bit slices, the strict mode as
the lenient one with two more clauses, and the two ways round between a header and its word. -/

namespace Sys2Proof.Machine

/-! What an evaluation of each block drives (R130, R135). -/

theorem exec_pktEncode (id : BitVec 16) (t : Nibble) (s : State) :
    exec (.pktEncode id t) s
      = .next (s.setPktEnc ⟨⟨id, t⟩, pktEncOut Config.decided ⟨id, t⟩⟩) := rfl

/-- The decoder shows the word check's code and zeros, or the fields of a word that passes. -/
theorem pktDecOut_eq {c : Config} (h : c.wf = true) (w : Word) (strict : Bool) :
    pktDecOut c ⟨w, strict⟩ =
      if valPktOut c ⟨w, strict⟩ = 0 then
        succeed
          { protocolVersion := 2, packetId := w.extractLsb' c.pidLsb 16, byteOrderQualifier := 0xF
            packetType := w.extractLsb' 0 4, packetTypeKnown := packetTypeIsKnown (w.extractLsb' 0 4) }
      else { ok := false, err := valPktOut c ⟨w, strict⟩, fields := pktDecZero } := by
  rw [pktDecOut, valPktOut]
  obtain ⟨e, hcheck, hdec⟩ | ⟨hcheck, hdec⟩ := decodePacketHeader_cases c w strict
  · rw [hcheck, hdec]
    exact (if_neg (errCode_ne_zero h e)).symm
  · rw [hcheck, hdec, report_ok, pktDecFieldsOf, packetTypeNibble_ofNibble, packetIdOf_eq h]
    rfl

/-- Settles O1: the outputs by the word check, whose code at the decided configuration is `packetErr`. -/
theorem pktDecodeDrivesTheRulesOutputs : Obligations.PktDecodeDrivesTheRulesOutputs := by
  intro w strict s
  rw [exec_pktDecode, pktDecPort, pktDecOut_eq decided_wf, valPktOut_decided]
  rfl

theorem pktEncOut_eq (c : Config) (p : BitVec 16) (t : Nibble) :
    pktEncOut c ⟨p, t⟩ =
      if 2 < t.toNat then raise c 0 .invalidField else succeed (packetWord c p t) := by
  rw [pktEncOut, encodePacketHeader_eq, apply_ite (report c 0 id)]
  rfl

/-- Settles O2: InvalidField above type 2, with its code of decision D9, else the canonical word. -/
theorem pktEncodeDrivesTheRulesOutputs : Obligations.PktEncodeDrivesTheRulesOutputs := by
  intro id t s
  rw [exec_pktEncode, pktEncOut_eq, packetWord_decided_eq]
  rfl

/-! Strict against lenient (R132). -/

/-- The two clauses of R100 that only the strict mode has. -/
def strictPacketError (c : Config) (w : Word) : Option ErrorKind :=
  if 2 < (w.extractLsb' 0 4).toNat then some .unknownPacketType
  else if w &&& c.pktReservedMask ≠ 0 then some .reservedBitSet
  else none

/-- The strict mode makes the lenient checks first and then its own two. -/
theorem checkPacketWord_strict_eq_or (c : Config) (w : Word) :
    checkPacketWord c w true = (checkPacketWord c w false).or (strictPacketError c w) := by
  rw [checkPacketWord_eq, checkPacketWord_eq]
  by_cases hv : w.getLsbD 29 = false
  · rw [if_pos hv, if_pos hv, Option.some_or]
  by_cases hq : w.extractLsb' 4 4 ≠ 0xF
  · rw [if_neg hv, if_neg hv, if_pos hq, if_pos hq, Option.some_or]
  · rw [if_neg hv, if_neg hv, if_neg hq, if_neg hq, strictPacketError]
    simp only [Bool.false_eq_true, false_and, true_and, if_false, Option.none_or]

theorem checkPacketWord_lenient_eq_none_iff (c : Config) (w : Word) :
    checkPacketWord c w false = none ↔ w.getLsbD 29 = true ∧ w.extractLsb' 4 4 = 0xF := by
  simp [checkPacketWord_eq_none_iff]

theorem strictPacketError_eq_some_iff (c : Config) (w : Word) (e : ErrorKind) :
    strictPacketError c w = some e ↔
      2 < (w.extractLsb' 0 4).toNat ∧ e = .unknownPacketType ∨
        (w.extractLsb' 0 4).toNat ≤ 2 ∧ w &&& c.pktReservedMask ≠ 0 ∧ e = .reservedBitSet := by
  rw [strictPacketError]
  split_ifs <;> grind

/-- A word that passes has one header, the same in both modes. -/
theorem decodePacketHeader_eq_ok_iff (c : Config) (w : Word) (strict : Bool) (header : PacketHeader) :
    decodePacketHeader c w strict = .ok header ↔
      checkPacketWord c w strict = none ∧
        header = ⟨2, packetIdOf c w, 0xF, packetTypeOfNibble (w.extractLsb' 0 4)⟩ := by
  obtain ⟨e, hcheck, hdec⟩ | ⟨hcheck, hdec⟩ := decodePacketHeader_cases c w strict
  · simp [hcheck, hdec]
  · simp [hcheck, hdec, eq_comm]

/-- Settles O44: an error of the strict mode is the lenient one or, failing that, of its own two clauses. -/
theorem strictRefinesLenientOnPackets : Obligations.StrictRefinesLenientOnPackets := by
  intro c w
  simp only [decodePacketHeader_eq_error_iff, decodePacketHeader_eq_ok_iff, checkPacketWord_strict_eq_or]
  refine ⟨fun e he => ?_, fun header ⟨hnone, hh⟩ => ⟨(Option.or_eq_none_iff.1 hnone).1, hh⟩,
    fun header e ⟨hnone, _⟩ he => ?_, fun hv hq hbad => ?_⟩
  · rw [he, Option.some_or]
  · obtain ⟨hv, hq⟩ := (checkPacketWord_lenient_eq_none_iff c w).1 hnone
    rw [hnone, Option.none_or, strictPacketError_eq_some_iff] at he
    exact ⟨hv, hq, he⟩
  · rw [(checkPacketWord_lenient_eq_none_iff c w).2 ⟨hv, hq⟩]
    simp only [Option.none_or, strictPacketError_eq_some_iff]
    by_cases ht : 2 < (w.extractLsb' 0 4).toNat
    · exact ⟨_, .inl ⟨ht, rfl⟩⟩
    · exact ⟨_, .inr ⟨Nat.le_of_not_lt ht, hbad.resolve_left ht, rfl⟩⟩

/-! Encode and decode (R136, R137). -/

/-- Settles O46: the word of a named type decodes to what went in. -/
theorem packetDecodeOfEncode : Obligations.PacketDecodeOfEncode := by
  intro c id t strict h ht
  refine ⟨_, _, (encodePacketHeader_eq c id t).trans (if_neg (Nat.not_lt_of_le ht)),
    decodePacketHeader_packetWord h id ht strict, rfl, packetTypeNibble_ofNibble t, ?_, rfl, rfl⟩
  rw [packetTypeNibble_ofNibble, packetTypeIsKnown_iff]
  exact ht

/-- A header with a nibble's tag is valid for encoding when the nibble's flag is 1 (10_state.md R32). -/
theorem validForEncoding_ofNibble (v : Nibble) (p : BitVec 16) (q t : Nibble) :
    (PacketHeader.mk v p q (packetTypeOfNibble t)).validForEncoding = packetTypeIsKnown t := by
  dsimp only [PacketHeader.validForEncoding]
  revert t
  decide

/-- Settles O47: PKT_ENCODE puts the fields of a decoded word together again and leaves out its reserved
bits, of which a strict decode lets none pass. -/
theorem packetEncodeOfDecode : Obligations.PacketEncodeOfDecode := by
  intro c w strict header h hok
  obtain ⟨hnone, rfl⟩ := (decodePacketHeader_eq_ok_iff ..).1 hok
  obtain ⟨hv, hq, hs⟩ := checkPacketWord_none hnone
  rw [validForEncoding_ofNibble, packetTypeNibble_ofNibble, encodePacketHeader, packetIdOf_eq h,
    and_not_reservedMask_eq_packetWord h hv hq]
  refine ⟨fun hknown => by simp [hknown], fun hstrict => ?_, fun hunknown => by simp [hunknown]⟩
  obtain ⟨ht, hr⟩ := hs hstrict
  exact ⟨(packetTypeIsKnown_iff _).2 ht,
    (and_not_reservedMask_eq_packetWord h hv hq).symm.trans (and_not_eq_self_of_and_eq_zero hr)⟩

/-! The canonical words (R138, 30_encoding.md R72). -/

theorem encodePacketHeader_eq_ok_iff (c : Config) (id : BitVec 16) (t : Nibble) (w : Word) :
    encodePacketHeader c id t = .ok w ↔ t.toNat ≤ 2 ∧ packetWord c id t = w := by
  rw [encodePacketHeader_eq]
  split
  case isTrue ht => simp [Nat.not_le_of_lt ht]
  case isFalse ht => simp [Nat.le_of_not_lt ht]

/-- A built word's slices are its packet ID and type (decision D5). -/
theorem packetWord_decided_slices (id : BitVec 16) (t : Nibble) :
    (packetWord Config.decided id t).extractLsb' 8 16 = id ∧
      (packetWord Config.decided id t).extractLsb' 0 4 = t := by
  rw [packetWord_decided_eq]
  exact canonicalWord_slices id t

/-- The fixed bits of a canonical word are the version bit, the canonical qualifier and no reserved bit. -/
theorem packetWord_decided_of_fixedBits {w : Word} (hw : w &&& 0xFF0000F0#32 = 0x200000F0) :
    packetWord Config.decided (w.extractLsb' 8 16) (w.extractLsb' 0 4) = w := by
  have hv : w.getLsbD 29 = true := by simpa using congrArg (·.getLsbD 29) hw
  have hq : w.extractLsb' 4 4 = 0xF :=
    calc w.extractLsb' 4 4
        = w.extractLsb' 4 4 &&& BitVec.allOnes 4 := BitVec.and_allOnes.symm
      _ = (w &&& 0xFF0000F0#32).extractLsb' 4 4 := by rw [BitVec.extractLsb'_and]; rfl
      _ = 0xF := by rw [hw]; rfl
  have hr : w &&& Config.decided.pktReservedMask = 0 := by
    simpa [BitVec.and_assoc] using congrArg (· &&& 0xDF000000#32) hw
  exact (and_not_reservedMask_eq_packetWord decided_wf hv hq).symm.trans
    (and_not_eq_self_of_and_eq_zero hr)

/-- Settles O48: a built word gives its inputs back as slices, and a word with the fixed bits is built from
its own. -/
theorem packetEncodeIsInjectiveOntoCanonicalWords :
    Obligations.PacketEncodeIsInjectiveOntoCanonicalWords := by
  simp only [Obligations.PacketEncodeIsInjectiveOntoCanonicalWords, encodePacketHeader_eq_ok_iff]
  refine ⟨fun id id' t t' w ⟨_, hw⟩ ⟨_, hw'⟩ => ?_, fun w => ⟨?_, fun ⟨hw, ht⟩ => ?_⟩⟩
  · obtain ⟨hid, ht⟩ := packetWord_decided_slices id t
    obtain ⟨hid', ht'⟩ := packetWord_decided_slices id' t'
    rw [hw] at hid ht
    rw [hw'] at hid' ht'
    exact ⟨hid.symm.trans hid', ht.symm.trans ht'⟩
  · rintro ⟨id, t, ht, rfl⟩
    refine ⟨?_, (packetWord_decided_slices id t).2.symm ▸ ht⟩
    rw [← pktRowWord_zero decided_wf]
    exact pktEncodeWord_fixed id t
  · exact ⟨_, _, ht, packetWord_decided_of_fixedBits hw⟩

end Sys2Proof.Machine
end

section
/-! SUPPORT. TXN_DECODE and TXN_ENCODE (42_transaction_header.md): their outputs over bit slices, the strict mode
as the lenient one with the two codes required known, and the two ways round between a header and its word. -/

namespace Sys2Proof.Machine

/-! What an evaluation of each block drives (R150, R155). -/

theorem exec_txnEncode (id : BitVec 12) (n : BitVec 8) (y i : Nibble) (s : State) :
    exec (.txnEncode id n y i) s
      = .next (s.setTxnEnc ⟨⟨id, n, y, i⟩, succeed (transactionWord id n y i)⟩) := rfl

/-- The decoder shows the word check's code and zeros, or the fields of a word that passes. -/
theorem txnDecOut_eq {c : Config} (h : c.wf = true) (w : Word) (strict : Bool) :
    txnDecOut c ⟨w, strict⟩ =
      if valTxnOut c ⟨w, strict⟩ = 0 then
        succeed
          { protocolVersion := 2, transactionId := w.extractLsb' 16 12, wordCount := w.extractLsb' 8 8
            typeId := w.extractLsb' 4 4, typeIdKnown := typeIdIsKnown c (w.extractLsb' 4 4)
            infoCode := w.extractLsb' 0 4, infoCodeKnown := infoCodeIsKnown (w.extractLsb' 0 4) }
      else { ok := false, err := valTxnOut c ⟨w, strict⟩, fields := txnDecZero } := by
  rw [txnDecOut, valTxnOut]
  obtain ⟨e, hcheck, hdec⟩ | ⟨hcheck, hdec⟩ := decodeTransactionHeader_cases c w strict
  · rw [hcheck, hdec]
    exact (if_neg (errCode_ne_zero h e)).symm
  · rw [hcheck, hdec, report_ok, txnDecFieldsOf, typeIdNibble_ofNibble, infoCodeNibble_ofNibble]
    rfl

/-- Settles O3: the outputs by the word check, whose code at the decided configuration is `transactionErr`. -/
theorem txnDecodeDrivesTheRulesOutputs : Obligations.TxnDecodeDrivesTheRulesOutputs := by
  intro w strict s
  rw [exec_txnDecode, txnDecPort, txnDecOut_eq decided_wf, valTxnOut_decided, typeIdIsKnown_decided,
    infoCodeIsKnown_eq]
  rfl

/-- The info code's place is bit 0, so it is not shifted (30_encoding.md R65). -/
theorem transactionWord_eq_or (id : BitVec 12) (n : BitVec 8) (y i : Nibble) :
    transactionWord id n y i =
      (0x2#32 <<< 28) ||| (id.setWidth 32 <<< 16) ||| (n.setWidth 32 <<< 8)
        ||| (y.setWidth 32 <<< 4) ||| i.setWidth 32 := by
  rw [transactionWord, putField, putField, putField, putField, putField, BitVec.shiftLeft_zero]
  rfl

/-- Settles O4: the OR of the shifted fields, and the pattern word it makes. -/
theorem txnEncodeDrivesTheRulesOutputs : Obligations.TxnEncodeDrivesTheRulesOutputs :=
  fun id n y i s =>
    ⟨_, exec_txnEncode id n y i s, transactionWord_eq_or id n y i, transactionWord_eq id n y i⟩

/-! Strict against lenient (R151). -/

/-- Of a word of version 2 only the strict mode asks more: that both codes are known. -/
theorem checkTransactionWord_of_version (c : Config) {w : Word} (hv : w.extractLsb' 28 4 = 2)
    (strict : Bool) :
    checkTransactionWord c w strict =
      if strict = true ∧ ¬(typeIdIsKnown c (w.extractLsb' 4 4) = true ∧
          infoCodeIsKnown (w.extractLsb' 0 4) = true) then
        some .unknownTransactionCode
      else none := by
  rw [checkTransactionWord_eq, if_neg (not_not_intro hv), ← ite_or]
  simp only [← and_or_left, not_and_or, Bool.not_eq_true]

/-- A word that passes has one header, the same in both modes. -/
theorem decodeTransactionHeader_eq_ok_iff (c : Config) (w : Word) (strict : Bool)
    (header : TransactionHeader) :
    decodeTransactionHeader c w strict = .ok header ↔
      checkTransactionWord c w strict = none ∧
        header = ⟨2, w.extractLsb' 16 12, w.extractLsb' 8 8, typeIdOfNibble c (w.extractLsb' 4 4),
          infoCodeOfNibble (w.extractLsb' 0 4)⟩ := by
  obtain ⟨e, hcheck, hdec⟩ | ⟨hcheck, hdec⟩ := decodeTransactionHeader_cases c w strict
  · simp [hcheck, hdec]
  · simp [hcheck, hdec, eq_comm]

theorem typeIdIsKnown_eq_false_iff (c : Config) (y : Nibble) :
    typeIdIsKnown c y = false ↔ y ≠ c.typeRead ∧ y ≠ c.typeWrite := by
  rw [← Bool.not_eq_true, typeIdIsKnown_iff, not_or]

/-- Settles O45: the version is checked alike in both modes, and of a word of version 2 the strict mode asks
that both codes are known. -/
theorem strictRefinesLenientOnTransactions : Obligations.StrictRefinesLenientOnTransactions := by
  refine fun c w => ⟨fun e he => ?_, fun header hok => ?_, fun hv => ?_⟩
  · by_cases hv : w.extractLsb' 28 4 = 2
    · obtain ⟨header, hok⟩ := decodeTransactionHeader_lenient_ok c hv
      cases he.symm.trans hok
    · cases he.symm.trans (decodeTransactionHeader_version_error c false hv)
      exact ⟨rfl, decodeTransactionHeader_version_error c true hv⟩
  · obtain ⟨hnone, rfl⟩ := (decodeTransactionHeader_eq_ok_iff ..).1 hok
    obtain ⟨hv, htype, hinfo⟩ := (checkTransactionWord_eq_none_iff ..).1 hnone
    refine ⟨(decodeTransactionHeader_eq_ok_iff ..).2 ⟨?_, rfl⟩, ?_, ?_⟩
    · exact (checkTransactionWord_eq_none_iff ..).2 ⟨hv, nofun, nofun⟩
    · rw [typeIdNibble_ofNibble, htype rfl]
    · rw [infoCodeNibble_ofNibble, hinfo rfl]
  · rw [decodeTransactionHeader_eq_error_iff, checkTransactionWord_of_version c hv,
      Option.ite_none_right_eq_some, and_iff_left rfl, and_iff_right rfl, not_and_or,
      Bool.not_eq_true, Bool.not_eq_true, typeIdIsKnown_eq_false_iff, infoCodeIsKnown_eq]

/-! Encode and decode (R156, R157). -/

theorem transactionWord_slices (id : BitVec 12) (n : BitVec 8) (y i : Nibble) :
    (transactionWord id n y i).extractLsb' 28 4 = 2 ∧
      (transactionWord id n y i).extractLsb' 16 12 = id ∧
      (transactionWord id n y i).extractLsb' 8 8 = n ∧ (transactionWord id n y i).extractLsb' 4 4 = y ∧
      (transactionWord id n y i).extractLsb' 0 4 = i := by
  rw [transactionWord_eq]
  exact txnRowWord_slices id n y i

/-- Settles O49: a built word has version 2 and its fields as slices, so only a strict mode's unknown code
keeps it from decoding to what went in. -/
theorem transactionDecodeOfEncode : Obligations.TransactionDecodeOfEncode := by
  intro c id n y i strict
  obtain ⟨hv, hid, hn, hy, hi⟩ := transactionWord_slices id n y i
  have hcheck := checkTransactionWord_of_version c hv strict
  rw [hy, hi] at hcheck
  refine ⟨fun hpass => ?_, fun ⟨hstrict, hunknown⟩ => ?_⟩
  · have hok : decodeTransactionHeader c (transactionWord id n y i) strict
        = .ok ⟨2, id, n, typeIdOfNibble c y, infoCodeOfNibble i⟩ := by
      rw [decodeTransactionHeader_eq_ok_iff, hcheck, hid, hn, hy, hi]
      exact ⟨if_neg fun ⟨hstrict, hunknown⟩ => hunknown (hpass.resolve_left (by simp [hstrict])), rfl⟩
    exact ⟨_, hok, rfl, rfl, typeIdNibble_ofNibble c y, infoCodeNibble_ofNibble i, rfl⟩
  · rw [decodeTransactionHeader_eq_error_iff, hcheck, if_pos ⟨hstrict, hunknown⟩]

/-- A word of version 2 is what TXN_ENCODE builds of its own fields. -/
theorem transactionWord_of_version {w : Word} (hv : w.extractLsb' 28 4 = 2) :
    transactionWord (w.extractLsb' 16 12) (w.extractLsb' 8 8) (w.extractLsb' 4 4) (w.extractLsb' 0 4)
      = w :=
  (transactionWord_eq ..).trans (txnWordOfFields_fieldsOfWord hv)

theorem transactionWord_injective {id id' : BitVec 12} {n n' : BitVec 8} {y y' i i' : Nibble}
    (h : transactionWord id n y i = transactionWord id' n' y' i') :
    id = id' ∧ n = n' ∧ y = y' ∧ i = i' := by
  obtain ⟨-, hid, hn, hy, hi⟩ := transactionWord_slices id n y i
  obtain ⟨-, hid', hn', hy', hi'⟩ := transactionWord_slices id' n' y' i'
  rw [h] at hid hn hy hi
  exact ⟨hid.symm.trans hid', hn.symm.trans hn', hy.symm.trans hy', hi.symm.trans hi'⟩

/-- Settles O50: a built word gives its inputs back as slices, and a word of version 2 is built from its own. -/
theorem transactionEncodeOfDecode : Obligations.TransactionEncodeOfDecode := by
  refine ⟨fun c w strict header hok => ?_, fun _ _ _ _ _ _ _ _ => transactionWord_injective,
    fun w => ⟨?_, fun hv => ⟨_, _, _, _, transactionWord_of_version hv⟩⟩⟩
  · obtain ⟨hnone, rfl⟩ := (decodeTransactionHeader_eq_ok_iff ..).1 hok
    obtain ⟨hv, -⟩ := checkTransactionWord_none hnone
    rw [typeIdNibble_ofNibble, infoCodeNibble_ofNibble]
    exact transactionWord_of_version hv
  · rintro ⟨id, n, y, i, rfl⟩
    exact (transactionWord_slices id n y i).1

end Sys2Proof.Machine
end

section
/-! SUPPORT. What the ports show after an error (60_exceptions.md R181, R183, R188). A whole result and a
legal code are facts about settled outputs; a step takes the wires of its one group from a settled state
and leaves every other group as it was, so it keeps both. -/

namespace Sys2Proof.Machine

/-! One result. -/

/-- A report is whole whatever it reports: decision D12 zeroes the fields of an error. -/
theorem report_whole {F A : Type} (zero : F) (view : A → F) (r : Except ErrorKind A) :
    (report Config.decided zero view r).Whole zero := by
  obtain ⟨a, -, hok⟩ | ⟨e, -, herr⟩ := report_cases Config.decided zero view r
  · simp [hok, Result.Whole]
  · simp [herr, Result.Whole]

theorem succeed_whole {F : Type} (zero fields : F) : (succeed fields).Whole zero := by
  simp [succeed, Result.Whole]

theorem Result.Whole.err_ne_seven {F : Type} {zero : F} {r : Result F} (h : r.Whole zero) : r.err ≠ 7 := by
  unfold Result.Whole at h
  split at h
  · rw [h]
    decide
  · obtain ⟨⟨e, he⟩, -⟩ := h
    rw [he]
    exact errCode_ne_seven e

theorem checkCode_ne_seven (o : Option ErrorKind) : checkCode Config.decided o ≠ 7 := by
  cases o with
  | none => decide
  | some e => exact errCode_ne_seven e

theorem outcomeCode_ne_three (o : InfoOutcome) : outcomeCode Config.decided o ≠ 3 := by
  cases o with
  | success | protocolFault => decide
  | recoverableBusFault => exact (by decide : Config.decided.outcomeCodes.recoverableBusFault ≠ 3)

/-! Settled states. -/

theorem State.Settled.noPartialHeader {s : State} (hs : s.Settled) : s.NoPartialHeader where
  pktDec := by rw [hs.pktDec]; exact report_whole ..
  pktEnc := by rw [hs.pktEnc]; exact report_whole ..
  txnDec := by rw [hs.txnDec]; exact report_whole ..
  txnEnc := by rw [hs.txnEnc]; exact succeed_whole ..
  mkPkt := by rw [hs.mkPkt]; exact report_whole ..
  mkTxn := by rw [hs.mkTxn]; exact report_whole ..

/-- The results are whole, which leaves the two word checks and the classifier. -/
theorem State.Settled.codesLegal {s : State} (hs : s.Settled) : s.CodesLegal where
  pktDec := hs.noPartialHeader.pktDec.err_ne_seven
  pktEnc := hs.noPartialHeader.pktEnc.err_ne_seven
  txnDec := hs.noPartialHeader.txnDec.err_ne_seven
  txnEnc := hs.noPartialHeader.txnEnc.err_ne_seven
  valPkt := by rw [hs.valPkt]; exact checkCode_ne_seven _
  valTxn := by rw [hs.valTxn]; exact checkCode_ne_seven _
  mkPkt := hs.noPartialHeader.mkPkt.err_ne_seven
  mkTxn := hs.noPartialHeader.mkTxn.err_ne_seven
  info := by rw [hs.info]; exact outcomeCode_ne_three _

/-- Settles O26: the outputs of each ok/err/fields group are a report, or TXN_ENCODE's constant success. -/
theorem settledStatesShowNoPartialHeader : Obligations.SettledStatesShowNoPartialHeader :=
  fun _ hs => hs.noPartialHeader

/-! Steps. -/

/-- After a step each group shows what it showed before or what it shows in some settled state. Power-up,
driven the same way, serves as that state. -/
theorem step_next_agreeOn {s t : State} (h : step s = .next t) :
    ∃ u : State, u.Settled ∧ ∀ g : Group, t.AgreeOn g s ∨ t.AgreeOn g u := by
  obtain ⟨d, rest, hd, rfl⟩ := step_next_drives h
  refine ⟨d.apply State.reset, hd.apply resetOutputsAreSettled, fun g => ?_⟩
  by_cases hg : g = d.group
  · subst hg
    exact .inr (d.apply_agreeOn_group _ _)
  · have hlist : (s.setRequests rest).AgreeOn g s := by cases g <;> rfl
    exact .inl ((d.apply_agreeOn_other _ hg).trans hlist)

/-- What holds of a group's wires in two states holds of them in a third that agrees with one of the two. -/
theorem of_eq_or_eq {α : Type} {a b x : α} {P : α → Prop} (h : x = a ∨ x = b) (ha : P a) (hb : P b) :
    P x := by
  obtain rfl | rfl := h
  · exact ha
  · exact hb

section
variable {s t u : State} (h : ∀ g : Group, t.AgreeOn g s ∨ t.AgreeOn g u)
include h

theorem State.NoPartialHeader.of_agreeOn (hs : s.NoPartialHeader) (hu : u.NoPartialHeader) :
    t.NoPartialHeader where
  pktDec := of_eq_or_eq (P := (·.out.Whole pktDecZero)) (h .pktDec) hs.pktDec hu.pktDec
  pktEnc := of_eq_or_eq (P := (·.out.Whole 0)) (h .pktEnc) hs.pktEnc hu.pktEnc
  txnDec := of_eq_or_eq (P := (·.out.Whole txnDecZero)) (h .txnDec) hs.txnDec hu.txnDec
  txnEnc := of_eq_or_eq (P := (·.out.Whole 0)) (h .txnEnc) hs.txnEnc hu.txnEnc
  mkPkt := of_eq_or_eq (P := (·.out.Whole mkPktZero)) (h .mkPkt) hs.mkPkt hu.mkPkt
  mkTxn := of_eq_or_eq (P := (·.out.Whole txnValuesZero)) (h .mkTxn) hs.mkTxn hu.mkTxn

theorem State.CodesLegal.of_agreeOn (hs : s.CodesLegal) (hu : u.CodesLegal) : t.CodesLegal where
  pktDec := of_eq_or_eq (P := (·.out.err ≠ 7)) (h .pktDec) hs.pktDec hu.pktDec
  pktEnc := of_eq_or_eq (P := (·.out.err ≠ 7)) (h .pktEnc) hs.pktEnc hu.pktEnc
  txnDec := of_eq_or_eq (P := (·.out.err ≠ 7)) (h .txnDec) hs.txnDec hu.txnDec
  txnEnc := of_eq_or_eq (P := (·.out.err ≠ 7)) (h .txnEnc) hs.txnEnc hu.txnEnc
  valPkt := of_eq_or_eq (P := (·.out ≠ 7)) (h .valPkt) hs.valPkt hu.valPkt
  valTxn := of_eq_or_eq (P := (·.out ≠ 7)) (h .valTxn) hs.valTxn hu.valTxn
  mkPkt := of_eq_or_eq (P := (·.out.err ≠ 7)) (h .mkPkt) hs.mkPkt hu.mkPkt
  mkTxn := of_eq_or_eq (P := (·.out.err ≠ 7)) (h .mkTxn) hs.mkTxn hu.mkTxn
  info := of_eq_or_eq (P := (·.out.outcome ≠ 3)) (h .info) hs.info hu.info

end

/-- Settles O25: a group a step drives is whole since it is settled, and the others were whole before. -/
theorem stepKeepsNoPartialHeader : Obligations.StepKeepsNoPartialHeader := by
  intro s s' hs hstep
  obtain ⟨u, hu, hagree⟩ := step_next_agreeOn hstep
  exact hs.of_agreeOn hagree hu.noPartialHeader

/-- Settles O27: a group a step drives shows legal codes since it is settled, and the others did before. -/
theorem stepKeepsCodesLegal : Obligations.StepKeepsCodesLegal := by
  intro s s' hs hstep
  obtain ⟨u, hu, hagree⟩ := step_next_agreeOn hstep
  exact hs.of_agreeOn hagree hu.codesLegal

/-! Two evaluations, the first of them failed. -/

/-- Settles O22: `i` touches only its own group, failed or not, and `j` drives its own group with values
that do not depend on the state. That `i` failed is not needed. -/
theorem failureDoesNotTouchTheNextEvaluation : Obligations.FailureDoesNotTouchTheNextEvaluation := by
  intro i j s t hi _
  obtain ⟨d, hd, -, hdrives⟩ := exec_drives i
  obtain ⟨e, he, -, hj⟩ := exec_drives j
  rw [hdrives, Host.Outcome.next.injEq] at hi
  subst hi
  refine ⟨e.apply (d.apply s), e.apply s, hj _, hj _, ?_⟩
  rw [← hd, ← he]
  rintro g (hg | rfl)
  · exact e.apply_agreeOn_apply (d.apply_agreeOn_other s hg)
  · exact e.apply_agreeOn_group _ _

end Sys2Proof.Machine
end

section
/-! SUPPORT. Requests and instructions (assumption log 19): the request of every instruction decodes to it,
and every well-formed request is the request of some instruction. Both directions of the round trip follow. -/

namespace Sys2Proof

open Machine Laws

/-! A request's operand bits. -/

/-- Bits that end below `m` are their low `m` bits. -/
theorem setWidth_low_slice {n m : Nat} {b : BitVec n} (h : b >>> m = 0) :
    (b.extractLsb' 0 m).setWidth n = b := by
  have hlt : b.toNat < 2 ^ m := by
    simpa [Nat.shiftRight_eq_div_pow, Nat.div_eq_zero_iff] using congrArg BitVec.toNat h
  apply BitVec.eq_of_toNat_eq
  simp [Nat.mod_eq_of_lt hlt, Nat.mod_eq_of_lt b.isLt]

theorem Request.wf_iff (r : Request) :
    r.wf = true ↔
      r.nbits = r.sel.width ∧ r.bits >>> r.nbits = 0 ∧ (r.strict = true → r.sel.hasStrict = true) ∧
        r.bits.extractLsb' 0 32 &&& r.sel.fixedMask Config.decided = r.sel.fixedBits := by
  simp only [Request.wf, Request.wholeOperand, Request.noBitAbove, Request.strictIsAPort,
    Request.fixedBitsHold, Bool.and_eq_true, beq_iff_eq, Bool.or_eq_true, Bool.not_eq_true', and_assoc]
  cases r.strict <;> simp

section
variable {sel : Select} {strict : Bool} {nbits : Nat} {bits : BitVec Config.OPERANDW}
  (h : (Request.mk sel strict nbits bits).wf = true)
include h

theorem Request.strict_eq_false_of_wf (hport : sel.hasStrict = false) : strict = false := by
  obtain ⟨-, -, hstrict, -⟩ := (wf_iff _).1 h
  simpa [hport] using hstrict

/-- A well-formed request presents an operand as wide as its port group's pattern. -/
theorem Request.eq_setWidth_of_wf :
    Request.mk sel strict nbits bits
      = ⟨sel, strict, sel.width, (bits.extractLsb' 0 sel.width).setWidth Config.OPERANDW⟩ := by
  obtain ⟨hn, htop, -, -⟩ := (wf_iff _).1 h
  dsimp only at hn htop
  subst hn
  rw [setWidth_low_slice htop]

/-- With a 32-bit operand it presents a word that has its pattern's fixed bits. -/
theorem Request.eq_wordRequest_of_wf (hwidth : sel.width = 32) :
    ∃ w : Word, w &&& sel.fixedMask Config.decided = sel.fixedBits ∧
      Request.mk sel strict nbits bits = wordRequest sel strict w := by
  obtain ⟨-, -, -, hfixed⟩ := (wf_iff _).1 h
  have heq := eq_setWidth_of_wf h
  rw [hwidth] at heq
  exact ⟨_, hfixed, heq⟩

/-- With a 4-bit operand and no `strict` input it presents a nibble. -/
theorem Request.eq_nibbleRequest_of_wf (hwidth : sel.width = 4) (hport : sel.hasStrict = false) :
    ∃ x : Nibble, Request.mk sel strict nbits bits = nibbleRequest sel x := by
  obtain rfl := strict_eq_false_of_wf h hport
  have heq := eq_setWidth_of_wf h
  rw [hwidth] at heq
  exact ⟨_, heq⟩

end

/-! The rows of a format, by their code. -/

theorem encode_pktRowInstr (t : Nibble) (r : BitVec 7) (p : BitVec 16) (strict : Bool) :
    encode (pktRowInstr t r p strict)
      = wordRequest .pktRow strict (pktRowWord Config.decided t r p) := by
  obtain ⟨⟨t, ht⟩⟩ := t
  interval_cases t <;> rfl

theorem encode_txnTypeRowInstr (y : Nibble) (id : BitVec 12) (n : BitVec 8) (i : Nibble) (strict : Bool) :
    encode (txnTypeRowInstr y id n i strict)
      = wordRequest .txnTypeRow strict (txnRowWord id n y i) := by
  obtain ⟨⟨y, hy⟩⟩ := y
  interval_cases y <;> rfl

theorem encode_txnInfoRowInstr (i : Nibble) (id : BitVec 12) (n : BitVec 8) (y : Nibble) (strict : Bool) :
    encode (txnInfoRowInstr i id n y strict)
      = wordRequest .txnInfoRow strict (txnRowWord id n y i) := by
  obtain ⟨⟨i, hi⟩⟩ := i
  interval_cases i <;> rfl

/-! Decoding a request, format by format. -/

theorem decode_wordRequest {sel : Select} {strict : Bool} {w : Word} (hwidth : sel.width = 32)
    (hport : strict = false ∨ sel.hasStrict = true)
    (hfixed : w &&& sel.fixedMask Config.decided = sel.fixedBits) :
    decode (wordRequest sel strict w)
      = .ok (readOperands Config.decided sel strict (w.setWidth Config.OPERANDW)) :=
  decode_eq_ok.2 ⟨wordRequest_wf _ _ _ hwidth hport hfixed, rfl⟩

theorem decode_pktRowRequest (t : Nibble) (r : BitVec 7) (p : BitVec 16) (strict : Bool) :
    decode (wordRequest .pktRow strict (pktRowWord Config.decided t r p))
      = .ok (pktRowInstr t r p strict) := by
  obtain ⟨ht, -, hp, -⟩ := pktRowWord_slices decided_wf t r p
  rw [decode_wordRequest rfl (.inr rfl) (pktRowWord_fixed t r p), readOperands, low_word_setWidth,
    low_slice_setWidth _ (by decide), low_slice_setWidth _ (by decide),
    reservedBits_pktRowWord decided_wf, ht, hp]

theorem decode_pktEncodeRequest (p : BitVec 16) (t : Nibble) :
    decode (wordRequest .pktEncode false (pktRowWord Config.decided t 0 p)) = .ok (.pktEncode p t) := by
  obtain ⟨ht, -, hp, -⟩ := pktRowWord_slices decided_wf t 0 p
  rw [decode_wordRequest rfl (.inl rfl) (pktEncodeWord_fixed p t), readOperands,
    low_slice_setWidth _ (by decide), low_slice_setWidth _ (by decide), ht, hp]

section
variable (id : BitVec 12) (n : BitVec 8) (y i : Nibble)

/-- The four fields of a transaction header word, cut out of the operand that presents it. -/
theorem txnRowWord_operand_slices :
    ((txnRowWord id n y i).setWidth Config.OPERANDW).extractLsb' 16 12 = id ∧
      ((txnRowWord id n y i).setWidth Config.OPERANDW).extractLsb' 8 8 = n ∧
      ((txnRowWord id n y i).setWidth Config.OPERANDW).extractLsb' 4 4 = y ∧
      ((txnRowWord id n y i).setWidth Config.OPERANDW).extractLsb' 0 4 = i := by
  obtain ⟨-, hslices⟩ := txnRowWord_slices id n y i
  simpa only [low_slice_setWidth, Nat.reduceAdd, Nat.reduceLeDiff] using hslices

theorem decode_txnTypeRowRequest (strict : Bool) :
    decode (wordRequest .txnTypeRow strict (txnRowWord id n y i))
      = .ok (txnTypeRowInstr y id n i strict) := by
  obtain ⟨hid, hn, hy, hi⟩ := txnRowWord_operand_slices id n y i
  rw [decode_wordRequest rfl (.inr rfl) (txnRowWord_fixed id n y i), readOperands, hid, hn, hy, hi]

theorem decode_txnInfoRowRequest (strict : Bool) :
    decode (wordRequest .txnInfoRow strict (txnRowWord id n y i))
      = .ok (txnInfoRowInstr i id n y strict) := by
  obtain ⟨hid, hn, hy, hi⟩ := txnRowWord_operand_slices id n y i
  rw [decode_wordRequest rfl (.inr rfl) (txnRowWord_fixed id n y i), readOperands, hid, hn, hy, hi]

theorem decode_txnEncodeRequest :
    decode (wordRequest .txnEncode false (txnRowWord id n y i)) = .ok (.txnEncode id n y i) := by
  obtain ⟨hid, hn, hy, hi⟩ := txnRowWord_operand_slices id n y i
  rw [decode_wordRequest rfl (.inl rfl) (txnRowWord_fixed id n y i), readOperands, hid, hn, hy, hi]

end

/-- A nibble comes out of its request as it went in. -/
theorem low_nibble_setWidth (x : Nibble) : (x.setWidth Config.OPERANDW).extractLsb' 0 4 = x :=
  (BitVec.extractLsb'_setWidth_of_le (by decide)).trans BitVec.extractLsb'_eq_self

/-- The host value and the nibble of MK_PKT, cut out of the operand that presents them. -/
theorem mkPkt_operand_slices (id : HostValue) (t : Nibble) :
    ((id ++ t).setWidth Config.OPERANDW).extractLsb' 4 Config.HOSTW = id ∧
      ((id ++ t).setWidth Config.OPERANDW).extractLsb' 0 4 = t :=
  ⟨(BitVec.extractLsb'_setWidth_of_le (by decide)).trans BitVec.extractLsb'_append_eq_left,
    (BitVec.extractLsb'_setWidth_of_le (by decide)).trans BitVec.extractLsb'_append_eq_right⟩

/-- The four host values of MK_TXN, cut out of the operand that presents them. -/
theorem mkTxn_operand_slices (id n y i : HostValue) :
    ((id ++ n ++ y ++ i).setWidth Config.OPERANDW).extractLsb' (3 * Config.HOSTW) Config.HOSTW = id ∧
      ((id ++ n ++ y ++ i).setWidth Config.OPERANDW).extractLsb' (2 * Config.HOSTW) Config.HOSTW = n ∧
      ((id ++ n ++ y ++ i).setWidth Config.OPERANDW).extractLsb' Config.HOSTW Config.HOSTW = y ∧
      ((id ++ n ++ y ++ i).setWidth Config.OPERANDW).extractLsb' 0 Config.HOSTW = i := by
  refine ⟨?_, ?_, ?_, ?_⟩ <;> rw [BitVec.extractLsb'_setWidth_of_le (by decide)]
  · rw [BitVec.extractLsb'_append_eq_of_le (by decide), BitVec.extractLsb'_append_eq_of_le (by decide)]
    exact BitVec.extractLsb'_append_eq_left
  · rw [BitVec.extractLsb'_append_eq_of_le (by decide), BitVec.extractLsb'_append_eq_of_le (by decide)]
    exact BitVec.extractLsb'_append_eq_right
  · rw [BitVec.extractLsb'_append_eq_of_le (by decide)]
    exact BitVec.extractLsb'_append_eq_right
  · exact BitVec.extractLsb'_append_eq_right

/-- Settles O31: each request presents the operands at the places the decoder reads them from. -/
theorem decodeInvertsEncode : Obligations.DecodeInvertsEncode := by
  intro i
  cases i with
  | valPktWord w strict =>
    exact decode_eq_ok.2
      ⟨EncodeWellFormed.valPktWord w strict, congrArg (Instr.valPktWord · strict) (low_word_setWidth w)⟩
  | valTxnWord w strict =>
    exact decode_eq_ok.2
      ⟨EncodeWellFormed.valTxnWord w strict, congrArg (Instr.valTxnWord · strict) (low_word_setWidth w)⟩
  | pktDecode w strict =>
    exact decode_eq_ok.2
      ⟨EncodeWellFormed.pktDecode w strict, congrArg (Instr.pktDecode · strict) (low_word_setWidth w)⟩
  | txnDecode w strict =>
    exact decode_eq_ok.2
      ⟨EncodeWellFormed.txnDecode w strict, congrArg (Instr.txnDecode · strict) (low_word_setWidth w)⟩
  | ptypeKnown x =>
    exact decode_eq_ok.2 ⟨EncodeWellFormed.ptypeKnown x, congrArg Instr.ptypeKnown (low_nibble_setWidth x)⟩
  | typeidKnown x =>
    exact decode_eq_ok.2
      ⟨EncodeWellFormed.typeidKnown x, congrArg Instr.typeidKnown (low_nibble_setWidth x)⟩
  | infoKnown x =>
    exact decode_eq_ok.2 ⟨EncodeWellFormed.infoKnown x, congrArg Instr.infoKnown (low_nibble_setWidth x)⟩
  | classifyInfo x =>
    exact decode_eq_ok.2
      ⟨EncodeWellFormed.classifyInfo x, congrArg Instr.classifyInfo (low_nibble_setWidth x)⟩
  | mkPkt id t =>
    obtain ⟨hid, ht⟩ := mkPkt_operand_slices id t
    exact decode_eq_ok.2 ⟨EncodeWellFormed.mkPkt id t, congrArg₂ Instr.mkPkt hid ht⟩
  | mkTxn id n y i =>
    obtain ⟨hid, hn, hy, hi⟩ := mkTxn_operand_slices id n y i
    refine decode_eq_ok.2 ⟨EncodeWellFormed.mkTxn id n y i, ?_⟩
    rw [encode, readOperands, hid, hn, hy, hi]
  | pktEncode id t => exact decode_pktEncodeRequest id t
  | txnEncode id n y i => exact decode_txnEncodeRequest id n y i
  | pktControl | pktStatus | pktResend | pktReserved3 | pktReserved4 | pktReserved5 | pktReserved6
  | pktReserved7 | pktReserved8 | pktReserved9 | pktReservedA | pktReservedB | pktReservedC
  | pktReservedD | pktReservedE | pktReservedF => exact decode_pktRowRequest ..
  | txnTypeRead | txnTypeWrite | txnTypeReserved2 | txnTypeReserved3 | txnTypeReserved4
  | txnTypeReserved5 | txnTypeReserved6 | txnTypeReserved7 | txnTypeReserved8 | txnTypeReserved9
  | txnTypeReservedA | txnTypeReservedB | txnTypeReservedC | txnTypeReservedD | txnTypeReservedE
  | txnTypeReservedF => exact decode_txnTypeRowRequest ..
  | txnInfoRequestSuccess | txnInfoBadHeader | txnInfoReserved2 | txnInfoReserved3
  | txnInfoReadBusError | txnInfoWriteBusError | txnInfoReadBusTimeout | txnInfoWriteBusTimeout
  | txnInfoReserved8 | txnInfoReserved9 | txnInfoReservedA | txnInfoReservedB | txnInfoReservedC
  | txnInfoReservedD | txnInfoReservedE | txnInfoUnknownRequest => exact decode_txnInfoRowRequest ..

/-! Every well-formed request presents an instruction. -/

/-- Bits that a mask fixes. -/
theorem extractLsb'_eq_of_and_eq {w m v : Word} (hw : w &&& m = v) {a n : Nat}
    (hm : m.extractLsb' a n = BitVec.allOnes n) : w.extractLsb' a n = v.extractLsb' a n := by
  rw [← hw, BitVec.extractLsb'_and, hm, BitVec.and_allOnes]

/-- The fixed bits of format PKT are the version bit and the canonical qualifier, so the word is the pattern
word of its own fields (30_encoding.md R60). -/
theorem pktRowWord_of_fixedBits {w : Word} (hw : w &&& 0x200000F0#32 = 0x200000F0) :
    pktRowWord Config.decided (w.extractLsb' 0 4) (reservedBits Config.decided w)
      (w.extractLsb' Config.decided.pidLsb 16) = w := by
  have hv : w.getLsbD 29 = true := by simpa using congrArg (·.getLsbD 29) hw
  have hq : w.extractLsb' 4 4 = 0xF := extractLsb'_eq_of_and_eq hw (by decide)
  exact pktRowWord_of_slices decided_wf hv hq

/-- The fixed bits of the transaction formats are the version (30_encoding.md R61). -/
theorem txnRowWord_of_fixedBits {w : Word} (hw : w &&& 0xF0000000#32 = 0x20000000) :
    txnRowWord (w.extractLsb' 16 12) (w.extractLsb' 8 8) (w.extractLsb' 4 4) (w.extractLsb' 0 4) = w := by
  have hv : w.extractLsb' 28 4 = 2 := extractLsb'_eq_of_and_eq hw (by decide)
  exact txnWordOfFields_fieldsOfWord hv

theorem exists_encode_eq_of_wf {r : Request} (h : r.wf = true) : ∃ i, encode i = r := by
  obtain ⟨sel, strict, nbits, bits⟩ := r
  cases sel with
  | ptypeKnown =>
    obtain ⟨x, hx⟩ := Request.eq_nibbleRequest_of_wf h rfl rfl
    exact ⟨.ptypeKnown x, hx.symm⟩
  | typeidKnown =>
    obtain ⟨x, hx⟩ := Request.eq_nibbleRequest_of_wf h rfl rfl
    exact ⟨.typeidKnown x, hx.symm⟩
  | infoKnown =>
    obtain ⟨x, hx⟩ := Request.eq_nibbleRequest_of_wf h rfl rfl
    exact ⟨.infoKnown x, hx.symm⟩
  | classifyInfo =>
    obtain ⟨x, hx⟩ := Request.eq_nibbleRequest_of_wf h rfl rfl
    exact ⟨.classifyInfo x, hx.symm⟩
  | valPktWord =>
    obtain ⟨w, -, hw⟩ := Request.eq_wordRequest_of_wf h rfl
    exact ⟨.valPktWord w strict, hw.symm⟩
  | valTxnWord =>
    obtain ⟨w, -, hw⟩ := Request.eq_wordRequest_of_wf h rfl
    exact ⟨.valTxnWord w strict, hw.symm⟩
  | pktDecode =>
    obtain ⟨w, -, hw⟩ := Request.eq_wordRequest_of_wf h rfl
    exact ⟨.pktDecode w strict, hw.symm⟩
  | txnDecode =>
    obtain ⟨w, -, hw⟩ := Request.eq_wordRequest_of_wf h rfl
    exact ⟨.txnDecode w strict, hw.symm⟩
  | pktEncode =>
    obtain rfl := Request.strict_eq_false_of_wf h rfl
    obtain ⟨w, hfixed, hw⟩ := Request.eq_wordRequest_of_wf h rfl
    have hcanonical := (pktRowWord_zero decided_wf _ _).trans (packetWord_decided_of_fixedBits hfixed)
    exact ⟨.pktEncode .., (congrArg _ hcanonical).trans hw.symm⟩
  | txnEncode =>
    obtain rfl := Request.strict_eq_false_of_wf h rfl
    obtain ⟨w, hfixed, hw⟩ := Request.eq_wordRequest_of_wf h rfl
    exact ⟨.txnEncode .., (congrArg _ (txnRowWord_of_fixedBits hfixed)).trans hw.symm⟩
  | pktRow =>
    obtain ⟨w, hfixed, hw⟩ := Request.eq_wordRequest_of_wf h rfl
    rw [hw, ← pktRowWord_of_fixedBits hfixed]
    exact ⟨_, encode_pktRowInstr ..⟩
  | txnTypeRow =>
    obtain ⟨w, hfixed, hw⟩ := Request.eq_wordRequest_of_wf h rfl
    rw [hw, ← txnRowWord_of_fixedBits hfixed]
    exact ⟨_, encode_txnTypeRowInstr ..⟩
  | txnInfoRow =>
    obtain ⟨w, hfixed, hw⟩ := Request.eq_wordRequest_of_wf h rfl
    rw [hw, ← txnRowWord_of_fixedBits hfixed]
    exact ⟨_, encode_txnInfoRowInstr ..⟩
  | mkPkt =>
    obtain rfl := Request.strict_eq_false_of_wf h rfl
    refine ⟨.mkPkt (bits.extractLsb' 4 Config.HOSTW) (bits.extractLsb' 0 4), ?_⟩
    rw [encode, BitVec.extractLsb'_append_extractLsb'_eq_extractLsb' (by decide)]
    exact (Request.eq_setWidth_of_wf h).symm
  | mkTxn =>
    obtain rfl := Request.strict_eq_false_of_wf h rfl
    refine ⟨.mkTxn (bits.extractLsb' (3 * Config.HOSTW) Config.HOSTW)
      (bits.extractLsb' (2 * Config.HOSTW) Config.HOSTW) (bits.extractLsb' Config.HOSTW Config.HOSTW)
      (bits.extractLsb' 0 Config.HOSTW), ?_⟩
    rw [encode, BitVec.extractLsb'_append_extractLsb'_eq_extractLsb' (by decide),
      BitVec.extractLsb'_append_extractLsb'_eq_extractLsb' (by decide),
      BitVec.extractLsb'_append_extractLsb'_eq_extractLsb' (by decide)]
    exact (Request.eq_setWidth_of_wf h).symm

/-- Settles O32: a request that decodes is well formed, so it is the request of an instruction, and that
instruction is the one it decodes to. -/
theorem encodeInvertsDecode : Obligations.EncodeInvertsDecode := by
  intro r i hdecode
  obtain ⟨hwf, -⟩ := decode_eq_ok.1 hdecode
  obtain ⟨j, rfl⟩ := exists_encode_eq_of_wf hwf
  rw [decodeInvertsEncode, Except.ok.injEq] at hdecode
  rw [hdecode]

end Sys2Proof
end

section
/-! SUPPORT. Steps on presented requests (assumption log 2, 7, 19): a step runs what the first request decodes
to, and the request of every instruction decodes to it. -/

namespace Sys2Proof.Machine

theorem step_of_decode_ok {s : State} {r : Request} {rest : List Request} {i : Instr}
    (hs : s.requests = r :: rest) (hdecode : decode r = .ok i) :
    step s = exec i (s.setRequests rest) := by
  simp only [step, hs, hdecode]

theorem step_of_decode_error {s : State} {r : Request} {rest : List Request} {e : DecodeError}
    (hs : s.requests = r :: rest) (hdecode : decode r = .error e) :
    step s = .refused (.illFormedRequest e) := by
  simp only [step, hs, hdecode]

theorem step_of_no_request {s : State} (hs : s.requests = []) : step s = .refused .nothingPresented := by
  simp only [step, hs]

/-- Settles O29: the three ways a step can begin. -/
theorem stepRunsTheDecodedInstruction : Obligations.StepRunsTheDecodedInstruction :=
  ⟨fun _ _ _ _ => step_of_decode_ok, fun _ => step_of_no_request, fun _ _ _ _ => step_of_decode_error⟩

/-- Settles O30: the request decodes to the instruction, and running it drives a group of ports and leaves the
list alone. -/
theorem everyInstructionRunsWhenPresented : Obligations.EveryInstructionRunsWhenPresented := by
  intro i s rest
  obtain ⟨d, -, -, hexec⟩ := exec_drives i
  exact ⟨d.apply (s.setRequests rest),
    (step_of_decode_ok rfl (decodeInvertsEncode i)).trans (hexec _), hexec _, d.apply_requests _⟩

/-- Table bits that decode make a request, and that request decodes to the same instruction. -/
theorem decodeTableWord_eq_some {nbits w : Nat} {i : Instr} (h : decodeTableWord nbits w = some i) :
    ∃ r, tableRequest nbits w = some r ∧ decode r = .ok i := by
  unfold decodeTableWord at h
  split at h
  next => cases h
  next r hr =>
    split at h
    next j hj =>
      cases h
      exact ⟨r, hr, hj⟩
    next => cases h

/-- Settles O36: the presented request is the first of the list, and a step takes off no other. -/
theorem fetchedTableWordRunsNext : Obligations.FetchedTableWordRunsNext := by
  intro s nbits w i h
  obtain ⟨r, hr, hdecode⟩ := decodeTableWord_eq_some h
  have hfetch : s.withFetchWord nbits w = s.setRequests (r :: s.requests) := by
    rw [State.withFetchWord, hr]
  rw [hfetch]
  exact step_of_decode_ok rfl hdecode

/-- Settles O33: an instruction comes out of the decoder exactly when its four checks pass. -/
theorem decodeAcceptsExactlyWellFormedRequests : Obligations.DecodeAcceptsExactlyWellFormedRequests :=
  fun _ => ⟨fun ⟨_, hdecode⟩ => (decode_eq_ok.1 hdecode).1, fun hwf => ⟨_, decode_eq_ok.2 ⟨hwf, rfl⟩⟩⟩

/-- Settles O35: by running the decoder on each word. -/
theorem writtenOutWordsDecode : Obligations.WrittenOutWordsDecode :=
  ⟨rfl, rfl, rfl, rfl, rfl, rfl⟩

/-- Settles O28: the outputs at power-up are settled, and settled outputs show legal codes. -/
theorem resetCodesAreLegal : Obligations.ResetCodesAreLegal := resetOutputsAreSettled.codesLegal

end Sys2Proof.Machine
end

section
/-! SUPPORT. The info group of `header_validator` (43_info_code_classify.md R170, R172). -/

namespace Sys2Proof.Machine

theorem exec_classifyInfo (i : Nibble) (s : State) :
    exec (.classifyInfo i) s = .next (s.setInfo ⟨i, infoOut Config.decided i⟩) := rfl

/-- Settles O11: by the sixteen codes. -/
theorem classificationFollowsTheNames : Obligations.ClassificationFollowsTheNames := by
  unfold Obligations.ClassificationFollowsTheNames
  decide

/-- The result table of 43_info_code_classify.md R172: code, then known, outcome and the two qualifiers. -/
def infoResultTable : List (Nibble × Bool × BitVec 2 × Bool × Bool) :=
  [ (0x0, true, 0, false, false), (0x1, true, 2, false, false), (0x2, false, 2, false, false),
    (0x3, false, 2, false, false), (0x4, true, 1, false, false), (0x5, true, 1, true, false),
    (0x6, true, 1, false, true), (0x7, true, 1, true, true), (0x8, false, 2, false, false),
    (0x9, false, 2, false, false), (0xA, false, 2, false, false), (0xB, false, 2, false, false),
    (0xC, false, 2, false, false), (0xD, false, 2, false, false), (0xE, false, 2, false, false),
    (0xF, true, 2, false, false) ]

/-- The outputs a row of the table stands for. -/
def infoOutOfRow (row : Nibble × Bool × BitVec 2 × Bool × Bool) : InfoOut :=
  ⟨row.2.1, row.2.2.1, row.2.2.2.1, row.2.2.2.2⟩

theorem infoOut_mem_infoResultTable (i : Nibble) :
    ∃ row ∈ infoResultTable, row.1 = i ∧ infoOut Config.decided i = infoOutOfRow row := by
  revert i; decide

/-- Settles O9: both evaluations drive `infoOut` of the code, which the table lists. -/
theorem infoGroupFollowsTheResultTable : Obligations.InfoGroupFollowsTheResultTable := by
  intro i s
  obtain ⟨row, hmem, hcode, hout⟩ := infoOut_mem_infoResultTable i
  have hnext : Host.Outcome.next (φ := Fault) (ρ := Refusal) (s.setInfo ⟨i, infoOut Config.decided i⟩)
      = .next (s.setInfo ⟨i, infoOutOfRow row⟩) := by rw [hout]
  exact ⟨row, hmem, hcode, (exec_infoKnown i s).trans hnext, (exec_classifyInfo i s).trans hnext⟩

end Sys2Proof.Machine
end

section
/-! SUPPORT. The code rows of the opcode table (assumption log 4): every row of a format runs its decoder on the
row's word, so what a row shows follows from the decoder's outputs on a pattern word. -/

namespace Sys2Proof.Machine

/-! Format PKT. -/

theorem exec_pktRowInstr (t : Nibble) (r : BitVec 7) (p : BitVec 16) (strict : Bool) (s : State) :
    exec (pktRowInstr t r p strict) s
      = .next (s.setPktDec (pktDecPort (pktRowWord Config.decided t r p) strict)) := by
  obtain ⟨⟨t, ht⟩⟩ := t
  interval_cases t <;> rfl

/-- A pattern word has the version bit and the qualifier, so only the strict clauses of R100 can refuse it. -/
theorem packetErr_pktRowWord (t : Nibble) (r : BitVec 7) (p : BitVec 16) (strict : Bool) :
    packetErr (pktRowWord Config.decided t r p) strict =
      if strict = true ∧ packetTypeIsKnown t = false then 4
      else if strict = true ∧ (r == 0) = false then 6 else 0 := by
  obtain ⟨ht, hq, -, hv⟩ := pktRowWord_slices decided_wf t r p
  have hr := pktRowWord_and_reservedMask_eq_zero_iff decided_wf t r p
  rw [decided_reservedMask] at hr
  rw [packetErr, if_neg (by simp [hv]), if_neg (not_not_intro hq), ht]
  simp only [ne_eq, hr, packetTypeIsKnown, decide_eq_false_iff_not, not_le, beq_eq_false_iff_ne]

/-- What a row of format PKT shows, by its mode, whether its type is a named one, and its reserved bits. -/
theorem exec_pktRowInstr_shows (t : Nibble) (r : BitVec 7) (p : BitVec 16) (strict : Bool) (s : State) :
    exec (pktRowInstr t r p strict) s = .next
      (s.showPktRow t r p strict (!strict || packetTypeIsKnown t && r == 0)
        (if packetTypeIsKnown t then 6 else 4) (packetTypeIsKnown t)) := by
  obtain ⟨ht, -, hp, -⟩ := pktRowWord_slices decided_wf t r p
  rw [exec_pktRowInstr, pktDecPort, pktDecOut_eq decided_wf, valPktOut_decided, packetErr_pktRowWord, ht, hp]
  cases strict <;> cases packetTypeIsKnown t <;> cases r == 0 <;> rfl

/-- Settles O14: the type is a named one, so only the reserved bits decide. -/
theorem namedPacketTypeRowsDecode : Obligations.NamedPacketTypeRowsDecode := by
  intro r p strict s
  have row : ∀ t, packetTypeIsKnown t = true →
      exec (pktRowInstr t r p strict) s
        = .next (s.showPktRow t r p strict (!strict || r == 0) 6 true) := fun t ht => by
    rw [exec_pktRowInstr_shows, ht, Bool.true_and, if_pos rfl]
  exact ⟨row 0x0 rfl, row 0x1 rfl, row 0x2 rfl⟩

/-- Settles O15: the type is no named one, which the strict mode refuses before it looks at a reserved bit. -/
theorem reservedPacketTypeRowsDecode : Obligations.ReservedPacketTypeRowsDecode := by
  intro r p strict s
  have row : ∀ t, packetTypeIsKnown t = false →
      exec (pktRowInstr t r p strict) s
        = .next (s.showPktRow t r p strict (!strict) 4 false) := fun t ht => by
    rw [exec_pktRowInstr_shows, ht, Bool.false_and, Bool.or_false, if_neg Bool.false_ne_true]
  exact ⟨row 0x3 rfl, row 0x4 rfl, row 0x5 rfl, row 0x6 rfl, row 0x7 rfl, row 0x8 rfl, row 0x9 rfl,
    row 0xA rfl, row 0xB rfl, row 0xC rfl, row 0xD rfl, row 0xE rfl, row 0xF rfl⟩

/-! Formats TXN.TYPE and TXN.INFO. -/

section
variable (id : BitVec 12) (n : BitVec 8) (y i : Nibble) (strict : Bool) (s : State)

theorem exec_txnTypeRowInstr :
    exec (txnTypeRowInstr y id n i strict) s
      = .next (s.setTxnDec (txnDecPort (txnRowWord id n y i) strict)) := by
  obtain ⟨⟨y, hy⟩⟩ := y
  interval_cases y <;> rfl

theorem exec_txnInfoRowInstr :
    exec (txnInfoRowInstr i id n y strict) s
      = .next (s.setTxnDec (txnDecPort (txnRowWord id n y i) strict)) := by
  obtain ⟨⟨i, hi⟩⟩ := i
  interval_cases i <;> rfl

/-- A pattern word has version 2, so only the strict clauses of R102 can refuse it. -/
theorem transactionErr_txnRowWord :
    transactionErr (txnRowWord id n y i) strict =
      if strict = true ∧ isKnownType y = false then 5
      else if strict = true ∧ isKnownInfo i = false then 5 else 0 := by
  obtain ⟨hv, -, -, hy, hi⟩ := txnRowWord_slices id n y i
  rw [transactionErr, if_neg (not_not_intro hv), hy, hi]

/-- What the decoder shows of a transaction header word, by its mode and whether its two codes are known. -/
theorem setTxnDec_txnRowWord_shows :
    s.setTxnDec (txnDecPort (txnRowWord id n y i) strict)
      = s.showTxnRow id n y i strict (!strict || isKnownType y && isKnownInfo i) (isKnownType y)
          (isKnownInfo i) := by
  obtain ⟨-, hid, hn, hy, hi⟩ := txnRowWord_slices id n y i
  rw [txnDecPort, txnDecOut_eq decided_wf, valTxnOut_decided, transactionErr_txnRowWord, hid, hn, hy, hi,
    typeIdIsKnown_decided, infoCodeIsKnown_eq]
  cases strict <;> cases isKnownType y <;> cases isKnownInfo i <;> rfl

end

/-- Settles O16: the type ID is known, so only the info code decides. -/
theorem namedTypeIdRowsDecode : Obligations.NamedTypeIdRowsDecode := by
  intro id n i strict s
  have row : ∀ y, isKnownType y = true →
      exec (txnTypeRowInstr y id n i strict) s
        = .next (s.showTxnRow id n y i strict (!strict || isKnownInfo i) true (isKnownInfo i)) :=
    fun y hy => by rw [exec_txnTypeRowInstr, setTxnDec_txnRowWord_shows, hy, Bool.true_and]
  exact ⟨row 0x0 rfl, row 0x1 rfl⟩

/-- Settles O17: the type ID is not known, which the strict mode refuses whatever the info code. -/
theorem reservedTypeIdRowsDecode : Obligations.ReservedTypeIdRowsDecode := by
  intro id n i strict s
  have row : ∀ y, isKnownType y = false →
      exec (txnTypeRowInstr y id n i strict) s
        = .next (s.showTxnRow id n y i strict (!strict) false (isKnownInfo i)) :=
    fun y hy => by
      rw [exec_txnTypeRowInstr, setTxnDec_txnRowWord_shows, hy, Bool.false_and, Bool.or_false]
  exact ⟨row 0x2 rfl, row 0x3 rfl, row 0x4 rfl, row 0x5 rfl, row 0x6 rfl, row 0x7 rfl, row 0x8 rfl,
    row 0x9 rfl, row 0xA rfl, row 0xB rfl, row 0xC rfl, row 0xD rfl, row 0xE rfl, row 0xF rfl⟩

/-- Settles O18: the info code is known, so only the type ID decides. -/
theorem namedInfoCodeRowsDecode : Obligations.NamedInfoCodeRowsDecode := by
  intro id n y strict s
  have row : ∀ i, isKnownInfo i = true →
      exec (txnInfoRowInstr i id n y strict) s
        = .next (s.showTxnRow id n y i strict (!strict || isKnownType y) (isKnownType y) true) :=
    fun i hi => by rw [exec_txnInfoRowInstr, setTxnDec_txnRowWord_shows, hi, Bool.and_true]
  exact ⟨row 0x0 rfl, row 0x1 rfl, row 0x4 rfl, row 0x5 rfl, row 0x6 rfl, row 0x7 rfl, row 0xF rfl⟩

/-- Settles O19: the info code is not known, which the strict mode refuses whatever the type ID. -/
theorem reservedInfoCodeRowsDecode : Obligations.ReservedInfoCodeRowsDecode := by
  intro id n y strict s
  have row : ∀ i, isKnownInfo i = false →
      exec (txnInfoRowInstr i id n y strict) s
        = .next (s.showTxnRow id n y i strict (!strict) (isKnownType y) false) :=
    fun i hi => by
      rw [exec_txnInfoRowInstr, setTxnDec_txnRowWord_shows, hi, Bool.and_false, Bool.or_false]
  exact ⟨row 0x2 rfl, row 0x3 rfl, row 0x8 rfl, row 0x9 rfl, row 0xA rfl, row 0xB rfl, row 0xC rfl,
    row 0xD rfl, row 0xE rfl⟩

end Sys2Proof.Machine
end
